-- ==== Sys2Proof/Word.lean ====
section
/-! DEFINITION. The 16-bit word of the machine (XLEN, ILEN, MEM_UNIT: `00_scope.md` R2) and the index of a
general register (`10_state.md` R10). -/

namespace Sys2Proof

/-- A register value, main-memory word, address or instruction word: sixteen bits, bit 0 least significant (R300). -/
abbrev Word := BitVec 16

/-- The index of a general register, `4'd0` to `4'd15` (R10). No index is special but 15 (R11, R12). -/
abbrev Reg := Fin 16

/-- Register 15, the stack pointer `rsp` (R10, R12). -/
abbrev Reg.rsp : Reg := 15

end Sys2Proof
end

