-- ==== Sys2Proof/Config.lean ====
section
/-! DEFINITION. What the spec leaves to an implementation or to the environment (`00_scope.md` R2,
`92_eei_decisions.md`, `93_implementation_defined.md`): the alternatives of each named parameter as a type, and the
FREE VALUES as constants without a body, so that no proof can lean on one. The value the spec chooses for each
parameter stands in `Machine/Params.lean`. -/

namespace Sys2Proof

/-- The alternatives of `ADDC_CIN`, the third addend of ADDC and ADDCI (D7, U6). -/
inductive AddcCin
  | one    -- the constant 1
  | flagC  -- the C flag
  deriving DecidableEq, Repr

/-- The alternatives of `NOT_MODE`, the operator `!` of NOT and NOTI (D8, U7). -/
inductive NotMode
  | bitwise
  | logical
  deriving DecidableEq, Repr

/-- The alternatives of `MOVI_MODE`, what MOVIL and MOVIU do to the byte they do not name (D15, U8). -/
inductive MoviMode
  | partialWrite  -- the other byte is kept
  | clearOther    -- the other byte is cleared
  deriving DecidableEq, Repr

/-- The five status flags by name (R17); `FLAG_LAYOUT` places each in a bit (R18). -/
inductive FlagName
  | c | l | f | z | n
  deriving DecidableEq, Repr

/-- The rows of `FLAG_POLICY`: the groups of instructions that treat the flags alike (R19, D10). -/
inductive FlagGroup
  | compares      -- CMP, CMPI
  | additions     -- ADD, ADDI, ADDC, ADDCI
  | subtractions  -- SUB, SUBI
  | ssf           -- SSF
  | others        -- every other instruction
  deriving DecidableEq, Repr

/-- The alternatives of `IFETCH_SPACE`: the two address spaces the source names (D3). -/
inductive Space
  | main
  | external
  deriving DecidableEq, Repr

/-- The four shift operators `<<`, `>>`, `<<<`, `>>>` (R110). -/
inductive ShiftOp
  | logicalLeft | logicalRight | arithLeft | arithRight
  deriving DecidableEq, Repr

/-- One access to the external space, as the environment sees it (R36): a read with the value it answered, or a
write with the value presented. -/
inductive ExtEvent
  | read (addr value : Word)
  | write (addr value : Word)
  deriving DecidableEq, Repr

/-- FREE VALUE (log entry 4). The word main memory holds at an address that neither the image nor any instruction
has written: a draw made once, at reset (R25, R26, U10). -/
opaque Config.memInitial : Word → Word

/-- FREE VALUE (log entry 5, `SHIFT_OOR`). What a register shift by more than 15 writes to its destination (R111,
U5). Its arguments are the draw's number, the operator, the value shifted and the amount, so nothing relates two
draws. -/
opaque Config.shiftOutOfRange : Nat → ShiftOp → Word → Word → Word

/-- FREE VALUE (log entry 6, `EXT_DEVICE`). What the environment answers to an external read of an address, given all
external accesses before it, oldest first (R36, U12). Every read lengthens that list, so nothing relates two
answers of one run. -/
opaque Config.extAnswer : List ExtEvent → Word → Word

end Sys2Proof
end

