-- ==== Sys2Proof/Syntax.lean ====
section
/-! DEFINITION. The instructions: one constructor for each row of `spec/opcode_table.json` (Table 1 with its sixteen
J and sixteen B variants written out, the pseudo-instruction NOP, and the two ranges of reserved words). -/

namespace Sys2Proof

/-- The condition codes of Table 2 (R141); `never` is the unnamed pattern 1111 (R70). -/
inductive Cond
  | eq | ne | cs | cc | fs | fc | lt | le | lo | ls | gt | ge | hi | hs | uc | never
  deriving DecidableEq, Repr

/-- An instruction. `rd` is `IW[11:8]` and `rs` is `IW[3:0]` (R51, R74); an immediate is the raw field, widened where
the instruction uses it (R62 to R65). Don't-care fields are no operands (R66). A reserved word keeps all its bits,
since the fault it ends in names them (R206). -/
inductive Instr
  | add (rd rs : Reg)  -- R82
  | addc (rd rs : Reg)  -- R84
  | mul (rd rs : Reg)  -- R86
  | sub (rd rs : Reg)  -- R88
  | cmp (rd rs : Reg)  -- R90
  | not (rd rs : Reg)  -- R101
  | and (rd rs : Reg)  -- R103
  | or (rd rs : Reg)  -- R105
  | xor (rd rs : Reg)  -- R107
  | lsh (rd rs : Reg)  -- R112
  | lshi (rd : Reg) (imm4 : BitVec 4)  -- R113
  | rsh (rd rs : Reg)  -- R114
  | rshi (rd : Reg) (imm4 : BitVec 4)  -- R115
  | alsh (rd rs : Reg)  -- R116
  | alshi (rd : Reg) (imm4 : BitVec 4)  -- R117
  | arsh (rd rs : Reg)  -- R118
  | addi (rd : Reg) (imm8 : BitVec 8)  -- R83
  | addci (rd : Reg) (imm8 : BitVec 8)  -- R85
  | muli (rd : Reg) (imm8 : BitVec 8)  -- R87
  | subi (rd : Reg) (imm8 : BitVec 8)  -- R89
  | cmpi (rd : Reg) (imm8 : BitVec 8)  -- R91
  | noti (rd : Reg) (imm8 : BitVec 8)  -- R102
  | andi (rd : Reg) (imm8 : BitVec 8)  -- R104
  | ori (rd : Reg) (imm8 : BitVec 8)  -- R106
  | xori (rd : Reg) (imm8 : BitVec 8)  -- R108
  | movil (rd : Reg) (imm8 : BitVec 8)  -- R132
  | moviu (rd : Reg) (imm8 : BitVec 8)  -- R133
  | beq (imm8 : BitVec 8)  -- R144
  | bne (imm8 : BitVec 8)  -- R144
  | bcs (imm8 : BitVec 8)  -- R144
  | bcc (imm8 : BitVec 8)  -- R144
  | bfs (imm8 : BitVec 8)  -- R144
  | bfc (imm8 : BitVec 8)  -- R144
  | blt (imm8 : BitVec 8)  -- R144
  | ble (imm8 : BitVec 8)  -- R144
  | blo (imm8 : BitVec 8)  -- R144
  | bls (imm8 : BitVec 8)  -- R144
  | bgt (imm8 : BitVec 8)  -- R144
  | bge (imm8 : BitVec 8)  -- R144
  | bhi (imm8 : BitVec 8)  -- R144
  | bhs (imm8 : BitVec 8)  -- R144
  | buc (imm8 : BitVec 8)  -- R144
  | bnever (imm8 : BitVec 8)  -- R144
  | calld (imm12 : BitVec 12)  -- R147
  | arshi (rd : Reg) (imm4 : BitVec 4)  -- R119
  | mov (rd rs : Reg)  -- R131
  | jeq (rs : Reg)  -- R143
  | jne (rs : Reg)  -- R143
  | jcs (rs : Reg)  -- R143
  | jcc (rs : Reg)  -- R143
  | jfs (rs : Reg)  -- R143
  | jfc (rs : Reg)  -- R143
  | jlt (rs : Reg)  -- R143
  | jle (rs : Reg)  -- R143
  | jlo (rs : Reg)  -- R143
  | jls (rs : Reg)  -- R143
  | jgt (rs : Reg)  -- R143
  | jge (rs : Reg)  -- R143
  | jhi (rs : Reg)  -- R143
  | jhs (rs : Reg)  -- R143
  | juc (rs : Reg)  -- R143
  | jnever (rs : Reg)  -- R143
  | call (rs : Reg)  -- R146
  | ret  -- R148
  | lpc (rd : Reg)  -- R149
  | lsf (rd : Reg)  -- R160
  | ssf (rs : Reg)  -- R161
  | push (rs : Reg)  -- R170
  | pop (rd : Reg)  -- R171
  | load (rd rs : Reg)  -- R173
  | store (rd rs : Reg)  -- R174, address in `rd`
  | loadx (rd rs : Reg)  -- R175
  | storex (rd rs : Reg)  -- R176, address in `rd`
  | nop  -- R190, a second name of `OR r0, r0`
  | reservedOp1110 (iw : Word)  -- R67
  | reservedOp1111Ext111x (iw : Word)  -- R67
  deriving DecidableEq, Repr

/-- One row of the match and mask table of R73: a word `w` is in the row when `w & mask == pattern`. -/
structure EncRow where
  name : String
  pattern : Word
  mask : Word
  deriving DecidableEq, Repr

end Sys2Proof
end

