-- ==== Sys2Proof/WellFormed.lean ====
section
/-! DEFINITION. Which terms of `Instr` are machine instructions with a word of their own. Register indices and
immediates are bounded by their types, so what is left to check is the pseudo-instruction (R190: NOP has no encoding
of its own) and that a reserved term really holds a reserved word (R67). -/

namespace Sys2Proof

/-- The words with `op` = 1110 (R67). -/
def isReservedOp1110 (w : Word) : Bool := w &&& 0xF000#16 == 0xE000#16

/-- The words with `op` = 1111 and `ext` = 1110 or 1111 (R67). -/
def isReservedOp1111Ext111x (w : Word) : Bool := w &&& 0xF0E0#16 == 0xF0E0#16

/-- The term is a machine instruction: it has a word of its own, and a reserved term holds a word of its range. -/
def Instr.wellFormed : Instr → Bool
  | .add _ _ => true
  | .addc _ _ => true
  | .mul _ _ => true
  | .sub _ _ => true
  | .cmp _ _ => true
  | .not _ _ => true
  | .and _ _ => true
  | .or _ _ => true
  | .xor _ _ => true
  | .lsh _ _ => true
  | .lshi _ _ => true
  | .rsh _ _ => true
  | .rshi _ _ => true
  | .alsh _ _ => true
  | .alshi _ _ => true
  | .arsh _ _ => true
  | .addi _ _ => true
  | .addci _ _ => true
  | .muli _ _ => true
  | .subi _ _ => true
  | .cmpi _ _ => true
  | .noti _ _ => true
  | .andi _ _ => true
  | .ori _ _ => true
  | .xori _ _ => true
  | .movil _ _ => true
  | .moviu _ _ => true
  | .beq _ => true
  | .bne _ => true
  | .bcs _ => true
  | .bcc _ => true
  | .bfs _ => true
  | .bfc _ => true
  | .blt _ => true
  | .ble _ => true
  | .blo _ => true
  | .bls _ => true
  | .bgt _ => true
  | .bge _ => true
  | .bhi _ => true
  | .bhs _ => true
  | .buc _ => true
  | .bnever _ => true
  | .calld _ => true
  | .arshi _ _ => true
  | .mov _ _ => true
  | .jeq _ => true
  | .jne _ => true
  | .jcs _ => true
  | .jcc _ => true
  | .jfs _ => true
  | .jfc _ => true
  | .jlt _ => true
  | .jle _ => true
  | .jlo _ => true
  | .jls _ => true
  | .jgt _ => true
  | .jge _ => true
  | .jhi _ => true
  | .jhs _ => true
  | .juc _ => true
  | .jnever _ => true
  | .call _ => true
  | .ret => true
  | .lpc _ => true
  | .lsf _ => true
  | .ssf _ => true
  | .push _ => true
  | .pop _ => true
  | .load _ _ => true
  | .store _ _ => true
  | .loadx _ _ => true
  | .storex _ _ => true
  | .nop => false
  | .reservedOp1110 iw => isReservedOp1110 iw
  | .reservedOp1111Ext111x iw => isReservedOp1111Ext111x iw

end Sys2Proof
end

