-- ==== Sys2Proof/Decode.lean ====
section
/-! DEFINITION. Decoding and encoding of the 16-bit instruction word (`30_encoding.md`). Decoding is total: every word
is one instruction of Table 1 or is rejected by name as one of the two reserved ranges (R58, R67). -/

namespace Sys2Proof

/-! ## Fields -/

/-- The 4-bit field of a word whose lowest bit is `lo` (R51), as an index. -/
def nibble (w : Word) (lo : Nat) : Fin 16 := (w.extractLsb' lo 4).toFin

/-- `imm4 = IW[3:0]` (R64). -/
def imm4Of (w : Word) : BitVec 4 := w.extractLsb' 0 4

/-- `imm8 = IW[7:0]` (R62, R63). -/
def imm8Of (w : Word) : BitVec 8 := w.extractLsb' 0 8

/-- `imm12 = IW[11:0]` (R65). -/
def imm12Of (w : Word) : BitVec 12 := w.extractLsb' 0 12

/-- The condition a 4-bit code names (Table 2, R141). Every code names one. -/
def Cond.ofCode (k : Fin 16) : Cond :=
  match k with
  | 0 => .eq
  | 1 => .ne
  | 2 => .cs
  | 3 => .cc
  | 4 => .fs
  | 5 => .fc
  | 6 => .lt
  | 7 => .le
  | 8 => .lo
  | 9 => .ls
  | 10 => .gt
  | 11 => .ge
  | 12 => .hi
  | 13 => .hs
  | 14 => .uc
  | 15 => .never
  | ⟨k + 16, h⟩ => absurd h (by omega)

/-- The bit pattern of a condition (Table 2, R141). -/
def Cond.code (c : Cond) : BitVec 4 :=
  match c with
  | .eq => 0b0000#4
  | .ne => 0b0001#4
  | .cs => 0b0010#4
  | .cc => 0b0011#4
  | .fs => 0b0100#4
  | .fc => 0b0101#4
  | .lt => 0b0110#4
  | .le => 0b0111#4
  | .lo => 0b1000#4
  | .ls => 0b1001#4
  | .gt => 0b1010#4
  | .ge => 0b1011#4
  | .hi => 0b1100#4
  | .hs => 0b1101#4
  | .uc => 0b1110#4
  | .never => 0b1111#4

/-! ## Decoding -/

/-- B[condition] for a condition: its sixteen variants differ only in `IW[11:8]` (R145). -/
def Instr.branch (c : Cond) (imm8 : BitVec 8) : Instr :=
  match c with
  | .eq => .beq imm8
  | .ne => .bne imm8
  | .cs => .bcs imm8
  | .cc => .bcc imm8
  | .fs => .bfs imm8
  | .fc => .bfc imm8
  | .lt => .blt imm8
  | .le => .ble imm8
  | .lo => .blo imm8
  | .ls => .bls imm8
  | .gt => .bgt imm8
  | .ge => .bge imm8
  | .hi => .bhi imm8
  | .hs => .bhs imm8
  | .uc => .buc imm8
  | .never => .bnever imm8

/-- J[condition] for a condition (R145). -/
def Instr.jump (c : Cond) (rs : Reg) : Instr :=
  match c with
  | .eq => .jeq rs
  | .ne => .jne rs
  | .cs => .jcs rs
  | .cc => .jcc rs
  | .fs => .jfs rs
  | .fc => .jfc rs
  | .lt => .jlt rs
  | .le => .jle rs
  | .lo => .jlo rs
  | .ls => .jls rs
  | .gt => .jgt rs
  | .ge => .jge rs
  | .hi => .jhi rs
  | .hs => .jhs rs
  | .uc => .juc rs
  | .never => .jnever rs

/-- `op` = 0000: the instruction is selected by `ext` (R60). -/
def decodeRegisterGroup (w : Word) (rd rs : Reg) : Instr :=
  match nibble w 4 with
  | 0 => .add rd rs
  | 1 => .addc rd rs
  | 2 => .mul rd rs
  | 3 => .sub rd rs
  | 4 => .cmp rd rs
  | 5 => .not rd rs
  | 6 => .and rd rs
  | 7 => .or rd rs
  | 8 => .xor rd rs
  | 9 => .lsh rd rs
  | 10 => .lshi rd (imm4Of w)
  | 11 => .rsh rd rs
  | 12 => .rshi rd (imm4Of w)
  | 13 => .alsh rd rs
  | 14 => .alshi rd (imm4Of w)
  | 15 => .arsh rd rs
  | ⟨k + 16, h⟩ => absurd h (by omega)

/-- `op` = 1111: the instruction is selected by `ext`; 1110 and 1111 are reserved (R61, R67). -/
def decodeSpecialGroup (w : Word) (rd rs : Reg) : Instr :=
  match nibble w 4 with
  | 0 => .arshi rd (imm4Of w)
  | 1 => .mov rd rs
  | 2 => .jump (Cond.ofCode rd) rs
  | 3 => .call rs
  | 4 => .ret
  | 5 => .lpc rd
  | 6 => .lsf rd
  | 7 => .ssf rs
  | 8 => .push rs
  | 9 => .pop rd
  | 10 => .load rd rs
  | 11 => .store rd rs
  | 12 => .loadx rd rs
  | 13 => .storex rd rs
  | 14 => .reservedOp1111Ext111x w
  | 15 => .reservedOp1111Ext111x w
  | ⟨k + 16, h⟩ => absurd h (by omega)

/-- The decode procedure of R58. `NOP` is never reported: its word is `OR r0, r0` (R190, and the opcode table's note
"a decoder reports OR"). -/
def decode (w : Word) : Instr :=
  let rd := nibble w 8
  let rs := nibble w 0
  match nibble w 12 with
  | 0 => decodeRegisterGroup w rd rs
  | 1 => .addi rd (imm8Of w)
  | 2 => .addci rd (imm8Of w)
  | 3 => .muli rd (imm8Of w)
  | 4 => .subi rd (imm8Of w)
  | 5 => .cmpi rd (imm8Of w)
  | 6 => .noti rd (imm8Of w)
  | 7 => .andi rd (imm8Of w)
  | 8 => .ori rd (imm8Of w)
  | 9 => .xori rd (imm8Of w)
  | 10 => .movil rd (imm8Of w)
  | 11 => .moviu rd (imm8Of w)
  | 12 => .branch (Cond.ofCode rd) (imm8Of w)
  | 13 => .calld (imm12Of w)
  | 14 => .reservedOp1110 w
  | 15 => decodeSpecialGroup w rd rs
  | ⟨k + 16, h⟩ => absurd h (by omega)

/-- The instruction the decoder reads from an instruction of `nbits` bits whose bits are `w`: one word, bit 0 least
significant, the bits above `nbits` zero (R50). Every word decodes, so nothing of that length is refused; a number
of bits that is not one word's is. -/
def decodeTableWord (nbits w : Nat) : Option Instr :=
  if nbits ≤ 16 then some (decode (BitVec.ofNat 16 (w % 2 ^ nbits))) else none

/-! ## Encoding -/

/-- A register index as the 4-bit field that holds it (R74). -/
def regBits (r : Reg) : BitVec 4 := BitVec.ofFin r

/-- A word from its four 4-bit fields (R51): formats RR, RI4, JC, RD, RS and Z (R52, R53, R57). -/
def encodeFields (op f11 f7 f3 : BitVec 4) : Word := op ++ f11 ++ f7 ++ f3

/-- Formats RI8 and BC (R54, R55). -/
def encodeImm8 (op f11 : BitVec 4) (imm8 : BitVec 8) : Word := op ++ f11 ++ imm8

/-- Format D12 (R56). -/
def encodeImm12 (op : BitVec 4) (imm12 : BitVec 12) : Word := op ++ imm12

/-- The word of an instruction. A don't-care field is 0000 (R66); NOP is the word of `OR r0, r0` (R190). -/
def encode (i : Instr) : Word :=
  match i with
  | .add rd rs => encodeFields 0b0000#4 (regBits rd) 0b0000#4 (regBits rs)
  | .addc rd rs => encodeFields 0b0000#4 (regBits rd) 0b0001#4 (regBits rs)
  | .mul rd rs => encodeFields 0b0000#4 (regBits rd) 0b0010#4 (regBits rs)
  | .sub rd rs => encodeFields 0b0000#4 (regBits rd) 0b0011#4 (regBits rs)
  | .cmp rd rs => encodeFields 0b0000#4 (regBits rd) 0b0100#4 (regBits rs)
  | .not rd rs => encodeFields 0b0000#4 (regBits rd) 0b0101#4 (regBits rs)
  | .and rd rs => encodeFields 0b0000#4 (regBits rd) 0b0110#4 (regBits rs)
  | .or rd rs => encodeFields 0b0000#4 (regBits rd) 0b0111#4 (regBits rs)
  | .xor rd rs => encodeFields 0b0000#4 (regBits rd) 0b1000#4 (regBits rs)
  | .lsh rd rs => encodeFields 0b0000#4 (regBits rd) 0b1001#4 (regBits rs)
  | .lshi rd imm4 => encodeFields 0b0000#4 (regBits rd) 0b1010#4 imm4
  | .rsh rd rs => encodeFields 0b0000#4 (regBits rd) 0b1011#4 (regBits rs)
  | .rshi rd imm4 => encodeFields 0b0000#4 (regBits rd) 0b1100#4 imm4
  | .alsh rd rs => encodeFields 0b0000#4 (regBits rd) 0b1101#4 (regBits rs)
  | .alshi rd imm4 => encodeFields 0b0000#4 (regBits rd) 0b1110#4 imm4
  | .arsh rd rs => encodeFields 0b0000#4 (regBits rd) 0b1111#4 (regBits rs)
  | .addi rd imm8 => encodeImm8 0b0001#4 (regBits rd) imm8
  | .addci rd imm8 => encodeImm8 0b0010#4 (regBits rd) imm8
  | .muli rd imm8 => encodeImm8 0b0011#4 (regBits rd) imm8
  | .subi rd imm8 => encodeImm8 0b0100#4 (regBits rd) imm8
  | .cmpi rd imm8 => encodeImm8 0b0101#4 (regBits rd) imm8
  | .noti rd imm8 => encodeImm8 0b0110#4 (regBits rd) imm8
  | .andi rd imm8 => encodeImm8 0b0111#4 (regBits rd) imm8
  | .ori rd imm8 => encodeImm8 0b1000#4 (regBits rd) imm8
  | .xori rd imm8 => encodeImm8 0b1001#4 (regBits rd) imm8
  | .movil rd imm8 => encodeImm8 0b1010#4 (regBits rd) imm8
  | .moviu rd imm8 => encodeImm8 0b1011#4 (regBits rd) imm8
  | .beq imm8 => encodeImm8 0b1100#4 (Cond.code .eq) imm8
  | .bne imm8 => encodeImm8 0b1100#4 (Cond.code .ne) imm8
  | .bcs imm8 => encodeImm8 0b1100#4 (Cond.code .cs) imm8
  | .bcc imm8 => encodeImm8 0b1100#4 (Cond.code .cc) imm8
  | .bfs imm8 => encodeImm8 0b1100#4 (Cond.code .fs) imm8
  | .bfc imm8 => encodeImm8 0b1100#4 (Cond.code .fc) imm8
  | .blt imm8 => encodeImm8 0b1100#4 (Cond.code .lt) imm8
  | .ble imm8 => encodeImm8 0b1100#4 (Cond.code .le) imm8
  | .blo imm8 => encodeImm8 0b1100#4 (Cond.code .lo) imm8
  | .bls imm8 => encodeImm8 0b1100#4 (Cond.code .ls) imm8
  | .bgt imm8 => encodeImm8 0b1100#4 (Cond.code .gt) imm8
  | .bge imm8 => encodeImm8 0b1100#4 (Cond.code .ge) imm8
  | .bhi imm8 => encodeImm8 0b1100#4 (Cond.code .hi) imm8
  | .bhs imm8 => encodeImm8 0b1100#4 (Cond.code .hs) imm8
  | .buc imm8 => encodeImm8 0b1100#4 (Cond.code .uc) imm8
  | .bnever imm8 => encodeImm8 0b1100#4 (Cond.code .never) imm8
  | .calld imm12 => encodeImm12 0b1101#4 imm12
  | .arshi rd imm4 => encodeFields 0b1111#4 (regBits rd) 0b0000#4 imm4
  | .mov rd rs => encodeFields 0b1111#4 (regBits rd) 0b0001#4 (regBits rs)
  | .jeq rs => encodeFields 0b1111#4 (Cond.code .eq) 0b0010#4 (regBits rs)
  | .jne rs => encodeFields 0b1111#4 (Cond.code .ne) 0b0010#4 (regBits rs)
  | .jcs rs => encodeFields 0b1111#4 (Cond.code .cs) 0b0010#4 (regBits rs)
  | .jcc rs => encodeFields 0b1111#4 (Cond.code .cc) 0b0010#4 (regBits rs)
  | .jfs rs => encodeFields 0b1111#4 (Cond.code .fs) 0b0010#4 (regBits rs)
  | .jfc rs => encodeFields 0b1111#4 (Cond.code .fc) 0b0010#4 (regBits rs)
  | .jlt rs => encodeFields 0b1111#4 (Cond.code .lt) 0b0010#4 (regBits rs)
  | .jle rs => encodeFields 0b1111#4 (Cond.code .le) 0b0010#4 (regBits rs)
  | .jlo rs => encodeFields 0b1111#4 (Cond.code .lo) 0b0010#4 (regBits rs)
  | .jls rs => encodeFields 0b1111#4 (Cond.code .ls) 0b0010#4 (regBits rs)
  | .jgt rs => encodeFields 0b1111#4 (Cond.code .gt) 0b0010#4 (regBits rs)
  | .jge rs => encodeFields 0b1111#4 (Cond.code .ge) 0b0010#4 (regBits rs)
  | .jhi rs => encodeFields 0b1111#4 (Cond.code .hi) 0b0010#4 (regBits rs)
  | .jhs rs => encodeFields 0b1111#4 (Cond.code .hs) 0b0010#4 (regBits rs)
  | .juc rs => encodeFields 0b1111#4 (Cond.code .uc) 0b0010#4 (regBits rs)
  | .jnever rs => encodeFields 0b1111#4 (Cond.code .never) 0b0010#4 (regBits rs)
  | .call rs => encodeFields 0b1111#4 0b0000#4 0b0011#4 (regBits rs)
  | .ret => encodeFields 0b1111#4 0b0000#4 0b0100#4 0b0000#4
  | .lpc rd => encodeFields 0b1111#4 (regBits rd) 0b0101#4 0b0000#4
  | .lsf rd => encodeFields 0b1111#4 (regBits rd) 0b0110#4 0b0000#4
  | .ssf rs => encodeFields 0b1111#4 0b0000#4 0b0111#4 (regBits rs)
  | .push rs => encodeFields 0b1111#4 0b0000#4 0b1000#4 (regBits rs)
  | .pop rd => encodeFields 0b1111#4 (regBits rd) 0b1001#4 0b0000#4
  | .load rd rs => encodeFields 0b1111#4 (regBits rd) 0b1010#4 (regBits rs)
  | .store rd rs => encodeFields 0b1111#4 (regBits rd) 0b1011#4 (regBits rs)
  | .loadx rd rs => encodeFields 0b1111#4 (regBits rd) 0b1100#4 (regBits rs)
  | .storex rd rs => encodeFields 0b1111#4 (regBits rd) 0b1101#4 (regBits rs)
  | .nop => encodeFields 0b0000#4 0b0000#4 0b0111#4 0b0000#4
  | .reservedOp1110 iw => iw
  | .reservedOp1111Ext111x iw => iw

/-! ## The match and mask table -/

/-- The row of R73 (and of `opcode_table.json`) an instruction belongs to. -/
def Instr.row (i : Instr) : EncRow :=
  match i with
  | .add _ _ => ⟨"ADD", 0x0000, 0xF0F0⟩
  | .addc _ _ => ⟨"ADDC", 0x0010, 0xF0F0⟩
  | .mul _ _ => ⟨"MUL", 0x0020, 0xF0F0⟩
  | .sub _ _ => ⟨"SUB", 0x0030, 0xF0F0⟩
  | .cmp _ _ => ⟨"CMP", 0x0040, 0xF0F0⟩
  | .not _ _ => ⟨"NOT", 0x0050, 0xF0F0⟩
  | .and _ _ => ⟨"AND", 0x0060, 0xF0F0⟩
  | .or _ _ => ⟨"OR", 0x0070, 0xF0F0⟩
  | .xor _ _ => ⟨"XOR", 0x0080, 0xF0F0⟩
  | .lsh _ _ => ⟨"LSH", 0x0090, 0xF0F0⟩
  | .lshi _ _ => ⟨"LSHI", 0x00A0, 0xF0F0⟩
  | .rsh _ _ => ⟨"RSH", 0x00B0, 0xF0F0⟩
  | .rshi _ _ => ⟨"RSHI", 0x00C0, 0xF0F0⟩
  | .alsh _ _ => ⟨"ALSH", 0x00D0, 0xF0F0⟩
  | .alshi _ _ => ⟨"ALSHI", 0x00E0, 0xF0F0⟩
  | .arsh _ _ => ⟨"ARSH", 0x00F0, 0xF0F0⟩
  | .addi _ _ => ⟨"ADDI", 0x1000, 0xF000⟩
  | .addci _ _ => ⟨"ADDCI", 0x2000, 0xF000⟩
  | .muli _ _ => ⟨"MULI", 0x3000, 0xF000⟩
  | .subi _ _ => ⟨"SUBI", 0x4000, 0xF000⟩
  | .cmpi _ _ => ⟨"CMPI", 0x5000, 0xF000⟩
  | .noti _ _ => ⟨"NOTI", 0x6000, 0xF000⟩
  | .andi _ _ => ⟨"ANDI", 0x7000, 0xF000⟩
  | .ori _ _ => ⟨"ORI", 0x8000, 0xF000⟩
  | .xori _ _ => ⟨"XORI", 0x9000, 0xF000⟩
  | .movil _ _ => ⟨"MOVIL", 0xA000, 0xF000⟩
  | .moviu _ _ => ⟨"MOVIU", 0xB000, 0xF000⟩
  | .beq _ => ⟨"BEQ", 0xC000, 0xFF00⟩
  | .bne _ => ⟨"BNE", 0xC100, 0xFF00⟩
  | .bcs _ => ⟨"BCS", 0xC200, 0xFF00⟩
  | .bcc _ => ⟨"BCC", 0xC300, 0xFF00⟩
  | .bfs _ => ⟨"BFS", 0xC400, 0xFF00⟩
  | .bfc _ => ⟨"BFC", 0xC500, 0xFF00⟩
  | .blt _ => ⟨"BLT", 0xC600, 0xFF00⟩
  | .ble _ => ⟨"BLE", 0xC700, 0xFF00⟩
  | .blo _ => ⟨"BLO", 0xC800, 0xFF00⟩
  | .bls _ => ⟨"BLS", 0xC900, 0xFF00⟩
  | .bgt _ => ⟨"BGT", 0xCA00, 0xFF00⟩
  | .bge _ => ⟨"BGE", 0xCB00, 0xFF00⟩
  | .bhi _ => ⟨"BHI", 0xCC00, 0xFF00⟩
  | .bhs _ => ⟨"BHS", 0xCD00, 0xFF00⟩
  | .buc _ => ⟨"BUC", 0xCE00, 0xFF00⟩
  | .bnever _ => ⟨"BNEVER", 0xCF00, 0xFF00⟩
  | .calld _ => ⟨"CALLD", 0xD000, 0xF000⟩
  | .arshi _ _ => ⟨"ARSHI", 0xF000, 0xF0F0⟩
  | .mov _ _ => ⟨"MOV", 0xF010, 0xF0F0⟩
  | .jeq _ => ⟨"JEQ", 0xF020, 0xFFF0⟩
  | .jne _ => ⟨"JNE", 0xF120, 0xFFF0⟩
  | .jcs _ => ⟨"JCS", 0xF220, 0xFFF0⟩
  | .jcc _ => ⟨"JCC", 0xF320, 0xFFF0⟩
  | .jfs _ => ⟨"JFS", 0xF420, 0xFFF0⟩
  | .jfc _ => ⟨"JFC", 0xF520, 0xFFF0⟩
  | .jlt _ => ⟨"JLT", 0xF620, 0xFFF0⟩
  | .jle _ => ⟨"JLE", 0xF720, 0xFFF0⟩
  | .jlo _ => ⟨"JLO", 0xF820, 0xFFF0⟩
  | .jls _ => ⟨"JLS", 0xF920, 0xFFF0⟩
  | .jgt _ => ⟨"JGT", 0xFA20, 0xFFF0⟩
  | .jge _ => ⟨"JGE", 0xFB20, 0xFFF0⟩
  | .jhi _ => ⟨"JHI", 0xFC20, 0xFFF0⟩
  | .jhs _ => ⟨"JHS", 0xFD20, 0xFFF0⟩
  | .juc _ => ⟨"JUC", 0xFE20, 0xFFF0⟩
  | .jnever _ => ⟨"JNEVER", 0xFF20, 0xFFF0⟩
  | .call _ => ⟨"CALL", 0xF030, 0xF0F0⟩
  | .ret => ⟨"RET", 0xF040, 0xF0F0⟩
  | .lpc _ => ⟨"LPC", 0xF050, 0xF0F0⟩
  | .lsf _ => ⟨"LSF", 0xF060, 0xF0F0⟩
  | .ssf _ => ⟨"SSF", 0xF070, 0xF0F0⟩
  | .push _ => ⟨"PUSH", 0xF080, 0xF0F0⟩
  | .pop _ => ⟨"POP", 0xF090, 0xF0F0⟩
  | .load _ _ => ⟨"LOAD", 0xF0A0, 0xF0F0⟩
  | .store _ _ => ⟨"STORE", 0xF0B0, 0xF0F0⟩
  | .loadx _ _ => ⟨"LOADX", 0xF0C0, 0xF0F0⟩
  | .storex _ _ => ⟨"STOREX", 0xF0D0, 0xF0F0⟩
  | .nop => ⟨"NOP", 0x0070, 0xFFFF⟩
  | .reservedOp1110 _ => ⟨"reserved_op_1110", 0xE000, 0xF000⟩
  | .reservedOp1111Ext111x _ => ⟨"reserved_op_1111_ext_111x", 0xF0E0, 0xF0E0⟩

/-- The mnemonic of `opcode_table.json`. -/
def Instr.mnemonic (i : Instr) : String := i.row.name

/-- A word lies in a row: `w & mask == match` (R73). -/
def EncRow.holds (r : EncRow) (w : Word) : Bool := w &&& r.mask == r.pattern

end Sys2Proof
end

