-- ==== Sys2Proof/Machine/Params.lean ====
section
/-! DEFINITION. The value the spec chooses for each named parameter (`00_scope.md` R2, `92_eei_decisions.md`). The
alternatives of a choice are types of `Config.lean`, and a model of another choice changes its body here. The widths and
extents are those the types have, so that wrapping is theirs; `Laws/Params.lean` holds them to it. -/

namespace Sys2Proof.Machine

/-- `MEM_UNIT` (R30, D1): the bits an address of main memory names, the width of `Word`. Log entry 3. -/
def memUnit : Nat := 16

/-- `MAIN_MEM_WORDS` (R44, D2): the addresses below this are implemented. Log entry 14. -/
def mainMemWords : Nat := 65536

/-- `EXT_WORDS` (R23, D4): the addresses of the external space, each of 16 bits. Log entry 6. -/
def extWords : Nat := 65536

/-- `IFETCH_SPACE` (R42, D3): log entry 15. -/
def ifetchSpace : Space := .main

/-- `PC_WIDTH` (R14, D17): the bits of `pc`, the width of `Word`. Log entry 17. -/
def pcWidth : Nat := 16

/-- `FLAG_POLICY` (R19, D10): whether the instructions of a group write a flag. Log entry 7. -/
def flagPolicy (group : FlagGroup) (name : FlagName) : Bool :=
  match group, name with
  | .compares, .z => true
  | .compares, .n => true
  | .compares, .l => true
  | .compares, .c => false
  | .compares, .f => false
  | .additions, .z => false
  | .additions, .n => false
  | .additions, .l => false
  | .additions, .c => true
  | .additions, .f => true
  | .subtractions, .z => false
  | .subtractions, .n => false
  | .subtractions, .l => false
  | .subtractions, .c => true
  | .subtractions, .f => true
  | .ssf, .z => true
  | .ssf, .n => true
  | .ssf, .l => true
  | .ssf, .c => true
  | .ssf, .f => true
  | .others, .z => false
  | .others, .n => false
  | .others, .l => false
  | .others, .c => false
  | .others, .f => false

/-- `RESET_PC` (R25, R220, D24). DESIGN CHOICE of the spec: log entry 1. -/
def resetPc : Word := 0x0000

/-- `RSP_RESET` (R25, C1, D25). A reading of the source by the spec: log entry 1. -/
def rspReset : Word := 0xFFFF

/-- What a register other than `rsp` holds at reset, where the spec gives no value (R26). DESIGN CHOICE of this
model: log entry 2, unsafe. -/
def unspecifiedReg : Word := 0x0000

/-- What a flag holds at reset, where the spec gives no value (R26). DESIGN CHOICE of this model: log entry 2,
unsafe. -/
def unspecifiedFlag : Bool := false

/-- `ADDC_CIN` (R84, D7): log entry 9. -/
def addcCin : AddcCin := .one

/-- `NOT_MODE` (R101, D8): log entry 10. -/
def notMode : NotMode := .bitwise

/-- `MOVI_MODE` (R132, R133, D15): log entry 11. -/
def moviMode : MoviMode := .partialWrite

/-- `FLAG_LAYOUT` (R18, D9): the bit of the LSF and SSF value that holds a flag. Log entry 8. -/
def flagBit (name : FlagName) : Nat :=
  match name with
  | .c => 0
  | .l => 1
  | .f => 2
  | .z => 3
  | .n => 4

/-- `END_WORD` (R225, D29): `BUC -1`, at which a run has ended by convention. Log entry 20. -/
def endWord : Word := 0xCEFF

end Sys2Proof.Machine
end

