-- ==== Sys2Proof/Machine/State.lean ====
section
/-! DEFINITION. The state of the machine as plain data, what can stop a step, and the state after reset
(`10_state.md`). -/

namespace Sys2Proof.Machine

/-- The five one-bit status flags `SF` (R17). All 32 values are legal (R21). -/
structure Flags where
  c : Bool
  l : Bool
  f : Bool
  z : Bool
  n : Bool
  deriving DecidableEq, Repr

/-- Main memory: the words written so far, by word address, addresses rising (R22, R30). The spec's addressing unit
is the 16-bit word, so a cell is (address, word) and no byte order arises (R31; log entry 3). An address that is not
listed has been written by nothing: `Memory.read` answers no value for it, and the core then sees the free value
`Config.memInitial` (log entry 4). -/
abbrev Memory := List (Nat × Word)

/-- The canonical form: addresses strictly rising, each below `MAIN_MEM_WORDS` (R44). No entry equals what an
unlisted address reads as, for that is no value. -/
abbrev Memory.wf (m : Memory) : Prop :=
  m.Pairwise (fun c d => c.1 < d.1) ∧ ∀ c ∈ m, c.1 < mainMemWords

/-- The architectural state (R10, R14, R17, R22, R23; R24: there is no other), and one counter of the model's own. -/
structure State where
  /-- The general registers `r0` to `r14` and `rsp` (R10). -/
  regs : Vector Word 16
  /-- The address of the instruction to execute (R14). -/
  pc : Word
  /-- The status flags (R17). -/
  flags : Flags
  /-- Main memory (R22). -/
  mem : Memory
  /-- The accesses made to the external space, oldest first (R36). -/
  ext : List ExtEvent
  /-- The model's own: how many values register shifts have drawn (log entry 5). -/
  draws : Nat
  deriving DecidableEq, Repr

/-- Why the machine stops. -/
inductive Fault
  /-- `IllegalInstruction(A, IW)`: raised by the two reserved constructors when the word fetched at `addr` is reserved
  (R67, R206). The chip goes on in a way the spec does not give: SAFE, for nothing can be proved of what follows. -/
  | illegalInstruction (addr iw : Word)
  deriving DecidableEq, Repr

/-- Why the model says nothing. -/
inductive Refusal
  /-- Raised by `exec` for an instruction without a meaning. No arm raises it: every instruction is modelled. SAFE. -/
  | notModelled (mnemonic : String)
  deriving DecidableEq, Repr

/-- What a meaning answers. -/
abbrev Result := Host.Outcome State Fault Refusal

/-- The machine right after reset (R25, R221): `pc` and `rsp` as the spec says, the registers and flags it leaves
unspecified at the values of log entry 2, nothing in memory, no external access made. The program image is loaded
from outside (R223; log entry 19). -/
def State.reset : State where
  regs := (Vector.replicate 16 unspecifiedReg).set Reg.rsp rspReset
  pc := resetPc
  flags := ⟨unspecifiedFlag, unspecifiedFlag, unspecifiedFlag, unspecifiedFlag, unspecifiedFlag⟩
  mem := []
  ext := []
  draws := 0

end Sys2Proof.Machine
end

