-- ==== Sys2Proof/Machine/Ops.lean ====
section
/-! DEFINITION. The named operations over registers, memory, the stack and the external space (`00_scope.md` 5.2,
`20_memory.md`, `46_memory_ops.md` R172). No operation can fail: there is no access fault, protection or trap
(R38, R44, R200), so there is no exception to take or return from either (R204, R205). -/

namespace Sys2Proof.Machine

/-! ## Main memory as data -/

/-- The word written at an address, or no value where nothing has been written. -/
def Memory.read (m : Memory) (a : Nat) : Option Word :=
  match m with
  | [] => none
  | (b, v) :: rest => if a = b then some v else Memory.read rest a

/-- Write one word, keeping the addresses rising. -/
def Memory.write (m : Memory) (a : Nat) (v : Word) : Memory :=
  match m with
  | [] => [(a, v)]
  | (b, u) :: rest =>
    if a < b then (a, v) :: (b, u) :: rest
    else if a = b then (a, v) :: rest
    else (b, u) :: Memory.write rest a v

/-! ## Registers, `pc`, flags -/

/-- `x[i]` (5.2; R11: no register is hardwired). -/
def State.readReg (s : State) (r : Reg) : Word := s.regs[r]

/-- `x[i] <- v` (5.2; R11: no register is read-only). -/
def State.writeReg (s : State) (r : Reg) (v : Word) : State := { s with regs := s.regs.set r v }

/-- `pc <- target` (R28). -/
def State.setPc (s : State) (target : Word) : State := { s with pc := target }

/-- The address of the next instruction, `A + 1` modulo 2^16 (R14, R15). -/
def State.nextPc (s : State) : Word := s.pc + 1

/-- `pc <- A + 1` (R15). -/
def State.advance (s : State) : State := s.setPc s.nextPc

/-- Replace the status flags. -/
def State.setFlags (s : State) (fl : Flags) : State := { s with flags := fl }

/-! ## Main memory -/

/-- `MemRead(addr, 1)`: the latest word written at the address, or its initial content if there was none (R35). -/
def State.readMain (s : State) (a : Word) : Word :=
  (Memory.read s.mem a.toNat).getD (Config.memInitial a)

/-- `MemWrite(addr, 1, v)` (R33, R44). -/
def State.writeMain (s : State) (a v : Word) : State := { s with mem := Memory.write s.mem a.toNat v }


/-- A program image put into main memory from outside, first word at `base` (R223, R25; log entry 19). -/
def State.loadImage (s : State) (base : Word) (image : List Word) : State :=
  match image with
  | [] => s
  | w :: rest => (s.writeMain base w).loadImage (base + 1) rest

/-! ## The stack: empty descending, through `rsp` (R172) -/

/-- Push: write at `rsp`, then decrement it (R170). Nothing checks a bound; `rsp` wraps (R45). -/
def State.push (s : State) (v : Word) : State :=
  (s.writeMain (s.readReg Reg.rsp) v).writeReg Reg.rsp (s.readReg Reg.rsp - 1)

/-- The address a pop reads: the incremented `rsp` (R171). -/
def State.popAddr (s : State) : Word := s.readReg Reg.rsp + 1

/-- The word a pop yields (R171). -/
def State.popWord (s : State) : Word := s.readMain s.popAddr

/-- The state after a pop's increment of `rsp` (R171). -/
def State.popped (s : State) : State := s.writeReg Reg.rsp s.popAddr

/-! ## The external space -/

/-- `ExtRead(addr, 1)`: the value the environment answers, a free value (R36; log entry 6). -/
def State.extValue (s : State) (a : Word) : Word := Config.extAnswer s.ext a

/-- The word at an address of a space. -/
def State.readSpace (s : State) (space : Space) (a : Word) : Word :=
  match space with
  | .main => s.readMain a
  | .external => s.extValue a

/-- The word at `pc`, read from `IFETCH_SPACE` (R3, R42; log entry 15). -/
def State.fetch (s : State) : Word := s.readSpace ifetchSpace s.pc

/-- Record one external access, after all earlier ones (R36: in order, each exactly once). -/
def State.recordExt (s : State) (e : ExtEvent) : State := { s with ext := s.ext ++ [e] }

/-! ## Values the spec leaves open -/

/-- The value a register shift out of range writes, a free value (R111; log entry 5). -/
def State.drawnShift (s : State) (op : ShiftOp) (a n : Word) : Word := Config.shiftOutOfRange s.draws op a n

/-- One value has been drawn. -/
def State.countDraw (s : State) : State := { s with draws := s.draws + 1 }

/-! ## Ways an instruction ends -/

/-- Write the result and go on to the next instruction. -/
def State.finish (s : State) (rd : Reg) (v : Word) : State := (s.writeReg rd v).advance

/-- `RESERVED_BEHAVIOUR`: the model stops at a reserved word, naming its address and the word (R206). -/
def illegalInstruction (s : State) (iw : Word) : Result := .fault (.illegalInstruction s.pc iw)

end Sys2Proof.Machine
end

