-- ==== Sys2Proof/Machine/Operands.lean ====
section
/-! DEFINITION. Operand forms (`30_encoding.md` R62 to R65, R74) and the value each arithmetic, logic, shift and move
instruction computes from its operands (`40_arithmetic.md` to `43_move.md`). -/

namespace Sys2Proof.Machine

/-! ## Immediates -/

/-- `sext_16(imm8)` (R62): ADDI, ADDCI, MULI, SUBI, CMPI and the displacement of B. -/
def sextImm8 (imm8 : BitVec 8) : Word := imm8.signExtend 16

/-- `zext_16(imm8)` (R63): NOTI, ANDI, ORI, XORI. -/
def zextImm8 (imm8 : BitVec 8) : Word := imm8.setWidth 16

/-- `sext_16(imm12)` (R65): the displacement of CALLD. -/
def sextImm12 (imm12 : BitVec 12) : Word := imm12.signExtend 16

/-- The shift amount `uint(IW[3:0])`, 0 to 15 (R64). -/
def shiftAmount (imm4 : BitVec 4) : Nat := imm4.toNat

/-! ## Arithmetic (R80, R81, R93) -/

/-- The 17-bit sum of two words and a carry-in (R82, R84: `zext_17(a) + zext_17(b) + k`). -/
def sum17 (a b : Word) (k : Bool) : BitVec 17 :=
  a.setWidth 17 + b.setWidth 17 + (BitVec.ofBool k).setWidth 17

/-- The sum modulo 2^16 (R81). -/
def addValue (a b : Word) (k : Bool) : Word := (sum17 a b k).setWidth 16

/-- The difference modulo 2^16 (R81). -/
def subValue (a b : Word) : Word := a - b

/-- The low sixteen bits of the product (R86, R93). -/
def mulValue (a b : Word) : Word := BitVec.ofNat 16 (a.toNat * b.toNat)

/-! ## Logic -/

/-- The operator `!` of NOT and NOTI (R101, `NOT_MODE`; log entry 10). -/
def notValue (mode : NotMode) (b : Word) : Word :=
  match mode with
  | .bitwise => ~~~b
  | .logical => if b = 0 then 1 else 0

/-! ## Shifts -/

/-- `a` shifted by `n`, for an amount in range (R110). The arithmetic left shift equals the logical one (R121). -/
def shiftValue (op : ShiftOp) (a : Word) (n : Nat) : Word :=
  match op with
  | .logicalLeft => a <<< n
  | .logicalRight => a >>> n
  | .arithLeft => a <<< n
  | .arithRight => a.sshiftRight n

/-- A register shift amount is in range (R111). -/
def shiftInRange (n : Word) : Bool := n.toNat ≤ 15

/-! ## Moves of one byte -/

/-- MOVIL: the low byte replaced, the high byte as `MOVI_MODE` says (R132; log entry 11). -/
def lowByteValue (mode : MoviMode) (old : Word) (imm8 : BitVec 8) : Word :=
  match mode with
  | .partialWrite => old.extractLsb' 8 8 ++ imm8
  | .clearOther => 0#8 ++ imm8

/-- MOVIU: the high byte replaced, the low byte as `MOVI_MODE` says (R133; log entry 11). -/
def highByteValue (mode : MoviMode) (old : Word) (imm8 : BitVec 8) : Word :=
  match mode with
  | .partialWrite => imm8 ++ old.extractLsb' 0 8
  | .clearOther => imm8 ++ 0#8

end Sys2Proof.Machine
end

