-- ==== Sys2Proof/Machine/Flags.lean ====
section
/-! DEFINITION. The status flags: what each flag-writing instruction computes (`FLAG_POLICY`: `10_state.md` R19,
`40_arithmetic.md` R81, R92), their order in a register (`FLAG_LAYOUT`: R18), and the conditions that read them
(`44_control.md` R141). An instruction that calls none of the three writers below writes no flag. -/

namespace Sys2Proof.Machine

/-! ## Carry, borrow, overflow (R81) -/

/-- The carry out of bit 15 of a sum (R81, R82: `t[16]`). -/
def addCarry (a b : Word) (k : Bool) : Bool := (sum17 a b k).getLsbD 16

/-- Signed overflow of a sum: the exact sum lies outside -32768 to 32767 (R81, R84). -/
def addOverflow (a b : Word) (k : Bool) : Bool :=
  let s := a.toInt + b.toInt + (if k then 1 else 0)
  s > 32767 || s < -32768

/-- The borrow of a difference: 1 when `uint(a) < uint(b)` (R81, R88). -/
def subBorrow (a b : Word) : Bool := a.toNat < b.toNat

/-- Signed overflow of a difference (R81). -/
def subOverflow (a b : Word) : Bool :=
  let s := a.toInt - b.toInt
  s > 32767 || s < -32768

/-- The third addend of ADDC and ADDCI (R84, `ADDC_CIN`; log entry 9). -/
def addcCarryIn (cin : AddcCin) (fl : Flags) : Bool :=
  match cin with
  | .one => true
  | .flagC => fl.c

/-! ## The writers (R19) -/

/-- The flags after an instruction of a group: those `FLAG_POLICY` lets the group write have the instruction's
values, the others their old ones (R19; log entry 7). -/
def Flags.write (old : Flags) (group : FlagGroup) (new : Flags) : Flags where
  c := bif flagPolicy group .c then new.c else old.c
  l := bif flagPolicy group .l then new.l else old.l
  f := bif flagPolicy group .f then new.f else old.f
  z := bif flagPolicy group .z then new.z else old.z
  n := bif flagPolicy group .n then new.n else old.n

/-- What ADD, ADDI, ADDC and ADDCI, or SUB and SUBI, do to the flags. They have values for C and F alone (R19, R81). -/
def Flags.withCF (fl : Flags) (group : FlagGroup) (c f : Bool) : Flags := fl.write group { fl with c := c, f := f }

/-- What CMP and CMPI do to the flags. They have values for Z, N and L alone, from the exact comparison of the first
operand with the second (R19, R90, R92). -/
def Flags.compared (fl : Flags) (a b : Word) : Flags :=
  fl.write .compares { fl with z := a == b, n := b.toInt < a.toInt, l := b.toNat < a.toNat }

/-- The five flags in the low five bits of a word (R161, R18). -/
def Flags.ofWord (v : Word) : Flags where
  c := v.getLsbD (flagBit .c)
  l := v.getLsbD (flagBit .l)
  f := v.getLsbD (flagBit .f)
  z := v.getLsbD (flagBit .z)
  n := v.getLsbD (flagBit .n)

/-- What SSF does to the flags (R19, R161). -/
def Flags.loaded (fl : Flags) (v : Word) : Flags := fl.write .ssf (Flags.ofWord v)

/-! ## Reading the flags -/

/-- One flag in its bit, the other bits 0 (R18). -/
def flagWord (name : FlagName) (b : Bool) : Word := (BitVec.ofBool b).setWidth 16 <<< flagBit name

/-- What LSF reads: the flags zero-extended (R160, R18). -/
def Flags.toWord (fl : Flags) : Word :=
  flagWord .n fl.n ||| flagWord .z fl.z ||| flagWord .f fl.f ||| flagWord .l fl.l ||| flagWord .c fl.c

/-- `cond_holds(c)` on the current flags alone (R141, R142). -/
def condHolds (c : Cond) (fl : Flags) : Bool :=
  match c with
  | .eq => fl.z
  | .ne => !fl.z
  | .cs => fl.c
  | .cc => !fl.c
  | .fs => fl.f
  | .fc => !fl.f
  | .lt => !fl.n && !fl.z
  | .le => !fl.n
  | .lo => !fl.l && !fl.z
  | .ls => !fl.l
  | .gt => fl.n
  | .ge => fl.n || fl.z
  | .hi => fl.l
  | .hs => fl.l || fl.z
  | .uc => true
  | .never => false

end Sys2Proof.Machine
end

