-- ==== Sys2Proof/Machine/Arith.lean ====
section
/-! DEFINITION. The arithmetic and compare instructions (`40_arithmetic.md`). Sources are read before the destination is
written (R80, R13). -/

namespace Sys2Proof.Machine

/-- `x[rd] <- x[rd] + b + k`, C and F written, on to the next instruction (R81, R82, R84). -/
def State.addTo (s : State) (rd : Reg) (b : Word) (k : Bool) : State :=
  let a := s.readReg rd
  (s.setFlags (s.flags.withCF .additions (addCarry a b k) (addOverflow a b k))).finish rd (addValue a b k)

/-- `x[rd] <- x[rd] - b`, C and F written, on to the next instruction (R81, R88). -/
def State.subFrom (s : State) (rd : Reg) (b : Word) : State :=
  let a := s.readReg rd
  (s.setFlags (s.flags.withCF .subtractions (subBorrow a b) (subOverflow a b))).finish rd (subValue a b)

/-- Compare `x[rd]` with `b`: Z, N, L written, no register (R90). -/
def State.compareWith (s : State) (rd : Reg) (b : Word) : State :=
  (s.setFlags (s.flags.compared (s.readReg rd) b)).advance

/-- ADD Rdest, Rsrc (R82). -/
def execAdd (rd rs : Reg) (s : State) : Result := .next (s.addTo rd (s.readReg rs) false)

/-- ADDI Rdest, Imm (R83). -/
def execAddi (rd : Reg) (imm8 : BitVec 8) (s : State) : Result := .next (s.addTo rd (sextImm8 imm8) false)

/-- ADDC Rdest, Rsrc (R84). -/
def execAddc (rd rs : Reg) (s : State) : Result := .next (s.addTo rd (s.readReg rs) (addcCarryIn addcCin s.flags))

/-- ADDCI Rdest, Imm (R85). -/
def execAddci (rd : Reg) (imm8 : BitVec 8) (s : State) : Result := .next (s.addTo rd (sextImm8 imm8) (addcCarryIn addcCin s.flags))

/-- MUL Rdest, Rsrc (R86). -/
def execMul (rd rs : Reg) (s : State) : Result := .next (s.finish rd (mulValue (s.readReg rd) (s.readReg rs)))

/-- MULI Rdest, Imm (R87). -/
def execMuli (rd : Reg) (imm8 : BitVec 8) (s : State) : Result := .next (s.finish rd (mulValue (s.readReg rd) (sextImm8 imm8)))

/-- SUB Rdest, Rsrc (R88). -/
def execSub (rd rs : Reg) (s : State) : Result := .next (s.subFrom rd (s.readReg rs))

/-- SUBI Rdest, Imm (R89). -/
def execSubi (rd : Reg) (imm8 : BitVec 8) (s : State) : Result := .next (s.subFrom rd (sextImm8 imm8))

/-- CMP Rdest, Rsrc (R90). -/
def execCmp (rd rs : Reg) (s : State) : Result := .next (s.compareWith rd (s.readReg rs))

/-- CMPI Rdest, Imm (R91). -/
def execCmpi (rd : Reg) (imm8 : BitVec 8) (s : State) : Result := .next (s.compareWith rd (sextImm8 imm8))

end Sys2Proof.Machine
end

