-- ==== Sys2Proof/Machine/Control.lean ====
section
/-! DEFINITION. The control transfers and LPC (`44_control.md`). They write no flag (R140); there is no delay slot (R151);
every 16-bit value is a legal target (R150). -/

namespace Sys2Proof.Machine

/-- The target of a relative transfer: `A + 1 + displacement`, modulo 2^16 (R144, R147; log entry 17). -/
def State.relative (s : State) (displacement : Word) : Word := s.nextPc + displacement

/-- J[condition] Rtarget: the absolute address in the register if the condition holds, else the next instruction
(R143). -/
def State.jumpIf (s : State) (c : Cond) (rs : Reg) : State :=
  if condHolds c s.flags then s.setPc (s.readReg rs) else s.advance

/-- B[condition] Imm: relative to the next instruction if the condition holds, else the next instruction (R144). -/
def State.branchIf (s : State) (c : Cond) (imm8 : BitVec 8) : State :=
  if condHolds c s.flags then s.setPc (s.relative (sextImm8 imm8)) else s.advance

/-- Push the return address `A + 1` and go to a target found before `rsp` changes (R146, R147, R152). -/
def State.callTo (s : State) (target : Word) : State := (s.push s.nextPc).setPc target

/-- BEQ Imm (R144, R141). -/
def execBeq (imm8 : BitVec 8) (s : State) : Result := .next (s.branchIf .eq imm8)

/-- BNE Imm (R144, R141). -/
def execBne (imm8 : BitVec 8) (s : State) : Result := .next (s.branchIf .ne imm8)

/-- BCS Imm (R144, R141). -/
def execBcs (imm8 : BitVec 8) (s : State) : Result := .next (s.branchIf .cs imm8)

/-- BCC Imm (R144, R141). -/
def execBcc (imm8 : BitVec 8) (s : State) : Result := .next (s.branchIf .cc imm8)

/-- BFS Imm (R144, R141). -/
def execBfs (imm8 : BitVec 8) (s : State) : Result := .next (s.branchIf .fs imm8)

/-- BFC Imm (R144, R141). -/
def execBfc (imm8 : BitVec 8) (s : State) : Result := .next (s.branchIf .fc imm8)

/-- BLT Imm (R144, R141). -/
def execBlt (imm8 : BitVec 8) (s : State) : Result := .next (s.branchIf .lt imm8)

/-- BLE Imm (R144, R141). -/
def execBle (imm8 : BitVec 8) (s : State) : Result := .next (s.branchIf .le imm8)

/-- BLO Imm (R144, R141). -/
def execBlo (imm8 : BitVec 8) (s : State) : Result := .next (s.branchIf .lo imm8)

/-- BLS Imm (R144, R141). -/
def execBls (imm8 : BitVec 8) (s : State) : Result := .next (s.branchIf .ls imm8)

/-- BGT Imm (R144, R141). -/
def execBgt (imm8 : BitVec 8) (s : State) : Result := .next (s.branchIf .gt imm8)

/-- BGE Imm (R144, R141). -/
def execBge (imm8 : BitVec 8) (s : State) : Result := .next (s.branchIf .ge imm8)

/-- BHI Imm (R144, R141). -/
def execBhi (imm8 : BitVec 8) (s : State) : Result := .next (s.branchIf .hi imm8)

/-- BHS Imm (R144, R141). -/
def execBhs (imm8 : BitVec 8) (s : State) : Result := .next (s.branchIf .hs imm8)

/-- BUC Imm (R144, R141). -/
def execBuc (imm8 : BitVec 8) (s : State) : Result := .next (s.branchIf .uc imm8)

/-- BNEVER Imm (R144, R141). -/
def execBnever (imm8 : BitVec 8) (s : State) : Result := .next (s.branchIf .never imm8)

/-- JEQ Rtarget (R143, R141). -/
def execJeq (rs : Reg) (s : State) : Result := .next (s.jumpIf .eq rs)

/-- JNE Rtarget (R143, R141). -/
def execJne (rs : Reg) (s : State) : Result := .next (s.jumpIf .ne rs)

/-- JCS Rtarget (R143, R141). -/
def execJcs (rs : Reg) (s : State) : Result := .next (s.jumpIf .cs rs)

/-- JCC Rtarget (R143, R141). -/
def execJcc (rs : Reg) (s : State) : Result := .next (s.jumpIf .cc rs)

/-- JFS Rtarget (R143, R141). -/
def execJfs (rs : Reg) (s : State) : Result := .next (s.jumpIf .fs rs)

/-- JFC Rtarget (R143, R141). -/
def execJfc (rs : Reg) (s : State) : Result := .next (s.jumpIf .fc rs)

/-- JLT Rtarget (R143, R141). -/
def execJlt (rs : Reg) (s : State) : Result := .next (s.jumpIf .lt rs)

/-- JLE Rtarget (R143, R141). -/
def execJle (rs : Reg) (s : State) : Result := .next (s.jumpIf .le rs)

/-- JLO Rtarget (R143, R141). -/
def execJlo (rs : Reg) (s : State) : Result := .next (s.jumpIf .lo rs)

/-- JLS Rtarget (R143, R141). -/
def execJls (rs : Reg) (s : State) : Result := .next (s.jumpIf .ls rs)

/-- JGT Rtarget (R143, R141). -/
def execJgt (rs : Reg) (s : State) : Result := .next (s.jumpIf .gt rs)

/-- JGE Rtarget (R143, R141). -/
def execJge (rs : Reg) (s : State) : Result := .next (s.jumpIf .ge rs)

/-- JHI Rtarget (R143, R141). -/
def execJhi (rs : Reg) (s : State) : Result := .next (s.jumpIf .hi rs)

/-- JHS Rtarget (R143, R141). -/
def execJhs (rs : Reg) (s : State) : Result := .next (s.jumpIf .hs rs)

/-- JUC Rtarget (R143, R141). -/
def execJuc (rs : Reg) (s : State) : Result := .next (s.jumpIf .uc rs)

/-- JNEVER Rtarget (R143, R141). -/
def execJnever (rs : Reg) (s : State) : Result := .next (s.jumpIf .never rs)

/-- CALL Rtarget (R146). -/
def execCall (rs : Reg) (s : State) : Result := .next (s.callTo (s.readReg rs))

/-- CALLD Imm (R147). -/
def execCalld (imm12 : BitVec 12) (s : State) : Result := .next (s.callTo (s.relative (sextImm12 imm12)))

/-- RET (R148). -/
def execRet (s : State) : Result := .next (s.popped.setPc s.popWord)

/-- LPC Rdest (R149). -/
def execLpc (rd : Reg) (s : State) : Result := .next (s.finish rd s.nextPc)

end Sys2Proof.Machine
end

