-- ==== Sys2Proof/Machine/Logic.lean ====
section
/-! DEFINITION. The logical instructions (`41_logic.md`). They write no flag (R100). -/

namespace Sys2Proof.Machine

/-- NOT Rdest, Rsrc (R101). -/
def execNot (rd rs : Reg) (s : State) : Result := .next (s.finish rd (notValue notMode (s.readReg rs)))

/-- NOTI Rdest, Imm (R102). -/
def execNoti (rd : Reg) (imm8 : BitVec 8) (s : State) : Result := .next (s.finish rd (notValue notMode (zextImm8 imm8)))

/-- AND Rdest, Rsrc (R103). -/
def execAnd (rd rs : Reg) (s : State) : Result := .next (s.finish rd (s.readReg rd &&& s.readReg rs))

/-- ANDI Rdest, Imm (R104). -/
def execAndi (rd : Reg) (imm8 : BitVec 8) (s : State) : Result := .next (s.finish rd (s.readReg rd &&& zextImm8 imm8))

/-- OR Rdest, Rsrc (R105). -/
def execOr (rd rs : Reg) (s : State) : Result := .next (s.finish rd (s.readReg rd ||| s.readReg rs))

/-- ORI Rdest, Imm (R106). -/
def execOri (rd : Reg) (imm8 : BitVec 8) (s : State) : Result := .next (s.finish rd (s.readReg rd ||| zextImm8 imm8))

/-- XOR Rdest, Rsrc (R107). -/
def execXor (rd rs : Reg) (s : State) : Result := .next (s.finish rd (s.readReg rd ^^^ s.readReg rs))

/-- XORI Rdest, Imm (R108). -/
def execXori (rd : Reg) (imm8 : BitVec 8) (s : State) : Result := .next (s.finish rd (s.readReg rd ^^^ zextImm8 imm8))

end Sys2Proof.Machine
end

