-- ==== Sys2Proof/Machine/MemOps.lean ====
section
/-! DEFINITION. Stack, main-memory and external load and store (`46_memory_ops.md`). One whole word moves, no flag is
written, nothing can fault (R177); the only address mode is register indirect (R178). -/

namespace Sys2Proof.Machine

/-- PUSH Rsrc: the value stored is read before `rsp` changes (R170). -/
def execPush (rs : Reg) (s : State) : Result := .next ((s.push (s.readReg rs)).advance)

/-- POP Rdest: the load is the later write, so `POP rsp` ends with the loaded word (R171). -/
def execPop (rd : Reg) (s : State) : Result := .next (s.popped.finish rd s.popWord)

/-- LOAD Rdest, Raddr (R173). -/
def execLoad (rd rs : Reg) (s : State) : Result := .next (s.finish rd (s.readMain (s.readReg rs)))

/-- STORE Raddr, Rsrc (R174). -/
def execStore (rd rs : Reg) (s : State) : Result := .next ((s.writeMain (s.readReg rd) (s.readReg rs)).advance)

/-- LOADX Rdest, Raddr: the environment answers, and the access is recorded (R175, R36; log entry 6). -/
def execLoadx (rd rs : Reg) (s : State) : Result :=
  let a := s.readReg rs
  .next ((s.recordExt (.read a (s.extValue a))).finish rd (s.extValue a))

/-- STOREX Raddr, Rsrc: the value is presented to the environment and recorded (R176, R36). -/
def execStorex (rd rs : Reg) (s : State) : Result :=
  .next ((s.recordExt (.write (s.readReg rd) (s.readReg rs))).advance)

end Sys2Proof.Machine
end

