-- ==== Sys2Proof/Machine/Move.lean ====
section
/-! DEFINITION. The move instructions (`43_move.md`). They write no flag (R130). -/

namespace Sys2Proof.Machine

/-- MOV Rdest, Rsrc (R131). -/
def execMov (rd rs : Reg) (s : State) : Result := .next (s.finish rd (s.readReg rs))

/-- MOVIL Rdest, Imm (R132). -/
def execMovil (rd : Reg) (imm8 : BitVec 8) (s : State) : Result := .next (s.finish rd (lowByteValue moviMode (s.readReg rd) imm8))

/-- MOVIU Rdest, Imm (R133). -/
def execMoviu (rd : Reg) (imm8 : BitVec 8) (s : State) : Result := .next (s.finish rd (highByteValue moviMode (s.readReg rd) imm8))

end Sys2Proof.Machine
end

