-- ==== Sys2Proof/Machine/Pseudo.lean ====
section
/-! DEFINITION. The pseudo-instruction NOP (`47_pseudo.md`) and the reserved words (`30_encoding.md` R67). -/

namespace Sys2Proof.Machine

/-- NOP: derived from OR and given no rule of its own (R190). -/
def execNop (s : State) : Result := execOr 0 0 s

/-- A word with `op` = 1110: the model-level fault (R67, R206). -/
def execReservedOp1110 (iw : Word) (s : State) : Result := illegalInstruction s iw

/-- A word with `op` = 1111 and `ext` = 111x: the model-level fault (R67, R206). -/
def execReservedOp1111Ext111x (iw : Word) (s : State) : Result := illegalInstruction s iw

end Sys2Proof.Machine
end

