-- ==== Sys2Proof/Machine/Shift.lean ====
section
/-! DEFINITION. The shift instructions (`42_shift.md`). They write no flag (R110). -/

namespace Sys2Proof.Machine

/-- A shift of `x[rd]` by the amount in a register. Above 15 the value written is a free value and nothing else
differs (R111, R112, R114, R116, R118; log entry 5). -/
def State.shiftByReg (s : State) (op : ShiftOp) (rd rs : Reg) : State :=
  let a := s.readReg rd
  let n := s.readReg rs
  if shiftInRange n then s.finish rd (shiftValue op a n.toNat)
  else s.countDraw.finish rd (s.drawnShift op a n)

/-- A shift of `x[rd]` by an immediate amount, always in range (R64, R113, R115, R117, R119). -/
def State.shiftByImm (s : State) (op : ShiftOp) (rd : Reg) (imm4 : BitVec 4) : State :=
  s.finish rd (shiftValue op (s.readReg rd) (shiftAmount imm4))

/-- LSH Rdest, Ramount (R112). -/
def execLsh (rd rs : Reg) (s : State) : Result := .next (s.shiftByReg .logicalLeft rd rs)

/-- LSHI Rdest, ImmLo (R113). -/
def execLshi (rd : Reg) (imm4 : BitVec 4) (s : State) : Result := .next (s.shiftByImm .logicalLeft rd imm4)

/-- RSH Rdest, Ramount (R114). -/
def execRsh (rd rs : Reg) (s : State) : Result := .next (s.shiftByReg .logicalRight rd rs)

/-- RSHI Rdest, ImmLo (R115). -/
def execRshi (rd : Reg) (imm4 : BitVec 4) (s : State) : Result := .next (s.shiftByImm .logicalRight rd imm4)

/-- ALSH Rdest, Ramount (R116). -/
def execAlsh (rd rs : Reg) (s : State) : Result := .next (s.shiftByReg .arithLeft rd rs)

/-- ALSHI Rdest, ImmLo (R117). -/
def execAlshi (rd : Reg) (imm4 : BitVec 4) (s : State) : Result := .next (s.shiftByImm .arithLeft rd imm4)

/-- ARSH Rdest, Ramount (R118). -/
def execArsh (rd rs : Reg) (s : State) : Result := .next (s.shiftByReg .arithRight rd rs)

/-- ARSHI Rdest, ImmLo (R119). -/
def execArshi (rd : Reg) (imm4 : BitVec 4) (s : State) : Result := .next (s.shiftByImm .arithRight rd imm4)

end Sys2Proof.Machine
end

