-- ==== Sys2Proof/Machine/Status.lean ====
section
/-! DEFINITION. Reading and writing the status flags as a group (`45_status.md`). Neither instruction is privileged (R162). -/

namespace Sys2Proof.Machine

/-- LSF Rdest (R160). -/
def execLsf (rd : Reg) (s : State) : Result := .next (s.finish rd s.flags.toWord)

/-- SSF Rsrc (R161). -/
def execSsf (rs : Reg) (s : State) : Result := .next ((s.setFlags (s.flags.loaded (s.readReg rs))).advance)

end Sys2Proof.Machine
end

