-- ==== Sys2Proof/Machine/Dispatch.lean ====
section
/-! DEFINITION. One arm per instruction, each one call of its meaning. -/

namespace Sys2Proof.Machine

def exec (i : Instr) (s : State) : Host.Outcome State Fault Refusal :=
  match i with
  | .add rd rs => Sys2Proof.Machine.execAdd rd rs s
  | .addc rd rs => Sys2Proof.Machine.execAddc rd rs s
  | .mul rd rs => Sys2Proof.Machine.execMul rd rs s
  | .sub rd rs => Sys2Proof.Machine.execSub rd rs s
  | .cmp rd rs => Sys2Proof.Machine.execCmp rd rs s
  | .not rd rs => Sys2Proof.Machine.execNot rd rs s
  | .and rd rs => Sys2Proof.Machine.execAnd rd rs s
  | .or rd rs => Sys2Proof.Machine.execOr rd rs s
  | .xor rd rs => Sys2Proof.Machine.execXor rd rs s
  | .lsh rd rs => Sys2Proof.Machine.execLsh rd rs s
  | .lshi rd imm4 => Sys2Proof.Machine.execLshi rd imm4 s
  | .rsh rd rs => Sys2Proof.Machine.execRsh rd rs s
  | .rshi rd imm4 => Sys2Proof.Machine.execRshi rd imm4 s
  | .alsh rd rs => Sys2Proof.Machine.execAlsh rd rs s
  | .alshi rd imm4 => Sys2Proof.Machine.execAlshi rd imm4 s
  | .arsh rd rs => Sys2Proof.Machine.execArsh rd rs s
  | .addi rd imm8 => Sys2Proof.Machine.execAddi rd imm8 s
  | .addci rd imm8 => Sys2Proof.Machine.execAddci rd imm8 s
  | .muli rd imm8 => Sys2Proof.Machine.execMuli rd imm8 s
  | .subi rd imm8 => Sys2Proof.Machine.execSubi rd imm8 s
  | .cmpi rd imm8 => Sys2Proof.Machine.execCmpi rd imm8 s
  | .noti rd imm8 => Sys2Proof.Machine.execNoti rd imm8 s
  | .andi rd imm8 => Sys2Proof.Machine.execAndi rd imm8 s
  | .ori rd imm8 => Sys2Proof.Machine.execOri rd imm8 s
  | .xori rd imm8 => Sys2Proof.Machine.execXori rd imm8 s
  | .movil rd imm8 => Sys2Proof.Machine.execMovil rd imm8 s
  | .moviu rd imm8 => Sys2Proof.Machine.execMoviu rd imm8 s
  | .beq imm8 => Sys2Proof.Machine.execBeq imm8 s
  | .bne imm8 => Sys2Proof.Machine.execBne imm8 s
  | .bcs imm8 => Sys2Proof.Machine.execBcs imm8 s
  | .bcc imm8 => Sys2Proof.Machine.execBcc imm8 s
  | .bfs imm8 => Sys2Proof.Machine.execBfs imm8 s
  | .bfc imm8 => Sys2Proof.Machine.execBfc imm8 s
  | .blt imm8 => Sys2Proof.Machine.execBlt imm8 s
  | .ble imm8 => Sys2Proof.Machine.execBle imm8 s
  | .blo imm8 => Sys2Proof.Machine.execBlo imm8 s
  | .bls imm8 => Sys2Proof.Machine.execBls imm8 s
  | .bgt imm8 => Sys2Proof.Machine.execBgt imm8 s
  | .bge imm8 => Sys2Proof.Machine.execBge imm8 s
  | .bhi imm8 => Sys2Proof.Machine.execBhi imm8 s
  | .bhs imm8 => Sys2Proof.Machine.execBhs imm8 s
  | .buc imm8 => Sys2Proof.Machine.execBuc imm8 s
  | .bnever imm8 => Sys2Proof.Machine.execBnever imm8 s
  | .calld imm12 => Sys2Proof.Machine.execCalld imm12 s
  | .arshi rd imm4 => Sys2Proof.Machine.execArshi rd imm4 s
  | .mov rd rs => Sys2Proof.Machine.execMov rd rs s
  | .jeq rs => Sys2Proof.Machine.execJeq rs s
  | .jne rs => Sys2Proof.Machine.execJne rs s
  | .jcs rs => Sys2Proof.Machine.execJcs rs s
  | .jcc rs => Sys2Proof.Machine.execJcc rs s
  | .jfs rs => Sys2Proof.Machine.execJfs rs s
  | .jfc rs => Sys2Proof.Machine.execJfc rs s
  | .jlt rs => Sys2Proof.Machine.execJlt rs s
  | .jle rs => Sys2Proof.Machine.execJle rs s
  | .jlo rs => Sys2Proof.Machine.execJlo rs s
  | .jls rs => Sys2Proof.Machine.execJls rs s
  | .jgt rs => Sys2Proof.Machine.execJgt rs s
  | .jge rs => Sys2Proof.Machine.execJge rs s
  | .jhi rs => Sys2Proof.Machine.execJhi rs s
  | .jhs rs => Sys2Proof.Machine.execJhs rs s
  | .juc rs => Sys2Proof.Machine.execJuc rs s
  | .jnever rs => Sys2Proof.Machine.execJnever rs s
  | .call rs => Sys2Proof.Machine.execCall rs s
  | .ret => Sys2Proof.Machine.execRet s
  | .lpc rd => Sys2Proof.Machine.execLpc rd s
  | .lsf rd => Sys2Proof.Machine.execLsf rd s
  | .ssf rs => Sys2Proof.Machine.execSsf rs s
  | .push rs => Sys2Proof.Machine.execPush rs s
  | .pop rd => Sys2Proof.Machine.execPop rd s
  | .load rd rs => Sys2Proof.Machine.execLoad rd rs s
  | .store rd rs => Sys2Proof.Machine.execStore rd rs s
  | .loadx rd rs => Sys2Proof.Machine.execLoadx rd rs s
  | .storex rd rs => Sys2Proof.Machine.execStorex rd rs s
  | .nop => Sys2Proof.Machine.execNop s
  | .reservedOp1110 iw => Sys2Proof.Machine.execReservedOp1110 iw s
  | .reservedOp1111Ext111x iw => Sys2Proof.Machine.execReservedOp1111Ext111x iw s

end Sys2Proof.Machine
end

