-- ==== Sys2Proof/Machine/Step.lean ====
section
/-! DEFINITION. One step of the machine (`00_scope.md` R3). -/

namespace Sys2Proof.Machine

/-- Read the word at `pc`, decode it, execute the rule of the decoded instruction, which sets `pc` (R3, R15). -/
def step (s : State) : Host.Outcome State Fault Refusal := exec (decode s.fetch) s

/-- The state with one instruction of `nbits` bits at the address the next step fetches from: a load from outside
(R223; log entry 19). -/
def State.withFetchWord (s : State) (nbits w : Nat) : State :=
  s.loadImage s.pc [BitVec.ofNat 16 (w % 2 ^ nbits)]

end Sys2Proof.Machine
end

