-- ==== Sys2Proof/Machine/Footprint.lean ====
section
/-! DEFINITION. What the spec allows each instruction to change, as tables read from the rules and NOT used by the
meanings: the registers it writes, the flags it writes (R19), the word it stores (R33), whether it transfers control
(R140) and whether it reaches the external space (R33). Statements about frames are made in these terms. -/

namespace Sys2Proof.Machine

/-- The general registers an instruction writes: its Rdest, and `rsp` for the five instructions that move it
implicitly (R12, R80). -/
def regsWritten (i : Instr) : List Reg :=
  match i with
  | .add rd _ => [rd]
  | .addc rd _ => [rd]
  | .mul rd _ => [rd]
  | .sub rd _ => [rd]
  | .cmp _ _ => []
  | .not rd _ => [rd]
  | .and rd _ => [rd]
  | .or rd _ => [rd]
  | .xor rd _ => [rd]
  | .lsh rd _ => [rd]
  | .lshi rd _ => [rd]
  | .rsh rd _ => [rd]
  | .rshi rd _ => [rd]
  | .alsh rd _ => [rd]
  | .alshi rd _ => [rd]
  | .arsh rd _ => [rd]
  | .addi rd _ => [rd]
  | .addci rd _ => [rd]
  | .muli rd _ => [rd]
  | .subi rd _ => [rd]
  | .cmpi _ _ => []
  | .noti rd _ => [rd]
  | .andi rd _ => [rd]
  | .ori rd _ => [rd]
  | .xori rd _ => [rd]
  | .movil rd _ => [rd]
  | .moviu rd _ => [rd]
  | .beq _ => []
  | .bne _ => []
  | .bcs _ => []
  | .bcc _ => []
  | .bfs _ => []
  | .bfc _ => []
  | .blt _ => []
  | .ble _ => []
  | .blo _ => []
  | .bls _ => []
  | .bgt _ => []
  | .bge _ => []
  | .bhi _ => []
  | .bhs _ => []
  | .buc _ => []
  | .bnever _ => []
  | .calld _ => [Reg.rsp]
  | .arshi rd _ => [rd]
  | .mov rd _ => [rd]
  | .jeq _ => []
  | .jne _ => []
  | .jcs _ => []
  | .jcc _ => []
  | .jfs _ => []
  | .jfc _ => []
  | .jlt _ => []
  | .jle _ => []
  | .jlo _ => []
  | .jls _ => []
  | .jgt _ => []
  | .jge _ => []
  | .jhi _ => []
  | .jhs _ => []
  | .juc _ => []
  | .jnever _ => []
  | .call _ => [Reg.rsp]
  | .ret => [Reg.rsp]
  | .lpc rd => [rd]
  | .lsf rd => [rd]
  | .ssf _ => []
  | .push _ => [Reg.rsp]
  | .pop rd => [rd, Reg.rsp]
  | .load rd _ => [rd]
  | .store _ _ => []
  | .loadx rd _ => [rd]
  | .storex _ _ => []
  | .nop => []
  | .reservedOp1110 _ => []
  | .reservedOp1111Ext111x _ => []

/-- The flags an instruction writes (R19). -/
def flagsWritten (i : Instr) : List FlagName :=
  match i with
  | .add _ _ => [.c, .f]
  | .addc _ _ => [.c, .f]
  | .mul _ _ => []
  | .sub _ _ => [.c, .f]
  | .cmp _ _ => [.z, .n, .l]
  | .not _ _ => []
  | .and _ _ => []
  | .or _ _ => []
  | .xor _ _ => []
  | .lsh _ _ => []
  | .lshi _ _ => []
  | .rsh _ _ => []
  | .rshi _ _ => []
  | .alsh _ _ => []
  | .alshi _ _ => []
  | .arsh _ _ => []
  | .addi _ _ => [.c, .f]
  | .addci _ _ => [.c, .f]
  | .muli _ _ => []
  | .subi _ _ => [.c, .f]
  | .cmpi _ _ => [.z, .n, .l]
  | .noti _ _ => []
  | .andi _ _ => []
  | .ori _ _ => []
  | .xori _ _ => []
  | .movil _ _ => []
  | .moviu _ _ => []
  | .beq _ => []
  | .bne _ => []
  | .bcs _ => []
  | .bcc _ => []
  | .bfs _ => []
  | .bfc _ => []
  | .blt _ => []
  | .ble _ => []
  | .blo _ => []
  | .bls _ => []
  | .bgt _ => []
  | .bge _ => []
  | .bhi _ => []
  | .bhs _ => []
  | .buc _ => []
  | .bnever _ => []
  | .calld _ => []
  | .arshi _ _ => []
  | .mov _ _ => []
  | .jeq _ => []
  | .jne _ => []
  | .jcs _ => []
  | .jcc _ => []
  | .jfs _ => []
  | .jfc _ => []
  | .jlt _ => []
  | .jle _ => []
  | .jlo _ => []
  | .jls _ => []
  | .jgt _ => []
  | .jge _ => []
  | .jhi _ => []
  | .jhs _ => []
  | .juc _ => []
  | .jnever _ => []
  | .call _ => []
  | .ret => []
  | .lpc _ => []
  | .lsf _ => []
  | .ssf _ => [.n, .z, .f, .l, .c]
  | .push _ => []
  | .pop _ => []
  | .load _ _ => []
  | .store _ _ => []
  | .loadx _ _ => []
  | .storex _ _ => []
  | .nop => []
  | .reservedOp1110 _ => []
  | .reservedOp1111Ext111x _ => []

/-- The row of `FLAG_POLICY` an instruction stands in (R19). -/
def flagGroup (i : Instr) : FlagGroup :=
  match i with
  | .add _ _ => .additions
  | .addc _ _ => .additions
  | .mul _ _ => .others
  | .sub _ _ => .subtractions
  | .cmp _ _ => .compares
  | .not _ _ => .others
  | .and _ _ => .others
  | .or _ _ => .others
  | .xor _ _ => .others
  | .lsh _ _ => .others
  | .lshi _ _ => .others
  | .rsh _ _ => .others
  | .rshi _ _ => .others
  | .alsh _ _ => .others
  | .alshi _ _ => .others
  | .arsh _ _ => .others
  | .addi _ _ => .additions
  | .addci _ _ => .additions
  | .muli _ _ => .others
  | .subi _ _ => .subtractions
  | .cmpi _ _ => .compares
  | .noti _ _ => .others
  | .andi _ _ => .others
  | .ori _ _ => .others
  | .xori _ _ => .others
  | .movil _ _ => .others
  | .moviu _ _ => .others
  | .beq _ => .others
  | .bne _ => .others
  | .bcs _ => .others
  | .bcc _ => .others
  | .bfs _ => .others
  | .bfc _ => .others
  | .blt _ => .others
  | .ble _ => .others
  | .blo _ => .others
  | .bls _ => .others
  | .bgt _ => .others
  | .bge _ => .others
  | .bhi _ => .others
  | .bhs _ => .others
  | .buc _ => .others
  | .bnever _ => .others
  | .calld _ => .others
  | .arshi _ _ => .others
  | .mov _ _ => .others
  | .jeq _ => .others
  | .jne _ => .others
  | .jcs _ => .others
  | .jcc _ => .others
  | .jfs _ => .others
  | .jfc _ => .others
  | .jlt _ => .others
  | .jle _ => .others
  | .jlo _ => .others
  | .jls _ => .others
  | .jgt _ => .others
  | .jge _ => .others
  | .jhi _ => .others
  | .jhs _ => .others
  | .juc _ => .others
  | .jnever _ => .others
  | .call _ => .others
  | .ret => .others
  | .lpc _ => .others
  | .lsf _ => .others
  | .ssf _ => .ssf
  | .push _ => .others
  | .pop _ => .others
  | .load _ _ => .others
  | .store _ _ => .others
  | .loadx _ _ => .others
  | .storex _ _ => .others
  | .nop => .others
  | .reservedOp1110 _ => .others
  | .reservedOp1111Ext111x _ => .others

/-- One flag by name. -/
def Flags.get (fl : Flags) (name : FlagName) : Bool :=
  match name with
  | .c => fl.c
  | .l => fl.l
  | .f => fl.f
  | .z => fl.z
  | .n => fl.n

/-- The address of the one main-memory word an instruction stores, if it stores one (R33): STORE at `x[rd]`, PUSH,
CALL and CALLD at `rsp`. -/
def storeAddr (i : Instr) (s : State) : Option Word :=
  match i with
  | .add _ _ => none
  | .addc _ _ => none
  | .mul _ _ => none
  | .sub _ _ => none
  | .cmp _ _ => none
  | .not _ _ => none
  | .and _ _ => none
  | .or _ _ => none
  | .xor _ _ => none
  | .lsh _ _ => none
  | .lshi _ _ => none
  | .rsh _ _ => none
  | .rshi _ _ => none
  | .alsh _ _ => none
  | .alshi _ _ => none
  | .arsh _ _ => none
  | .addi _ _ => none
  | .addci _ _ => none
  | .muli _ _ => none
  | .subi _ _ => none
  | .cmpi _ _ => none
  | .noti _ _ => none
  | .andi _ _ => none
  | .ori _ _ => none
  | .xori _ _ => none
  | .movil _ _ => none
  | .moviu _ _ => none
  | .beq _ => none
  | .bne _ => none
  | .bcs _ => none
  | .bcc _ => none
  | .bfs _ => none
  | .bfc _ => none
  | .blt _ => none
  | .ble _ => none
  | .blo _ => none
  | .bls _ => none
  | .bgt _ => none
  | .bge _ => none
  | .bhi _ => none
  | .bhs _ => none
  | .buc _ => none
  | .bnever _ => none
  | .calld _ => some (s.readReg Reg.rsp)
  | .arshi _ _ => none
  | .mov _ _ => none
  | .jeq _ => none
  | .jne _ => none
  | .jcs _ => none
  | .jcc _ => none
  | .jfs _ => none
  | .jfc _ => none
  | .jlt _ => none
  | .jle _ => none
  | .jlo _ => none
  | .jls _ => none
  | .jgt _ => none
  | .jge _ => none
  | .jhi _ => none
  | .jhs _ => none
  | .juc _ => none
  | .jnever _ => none
  | .call _ => some (s.readReg Reg.rsp)
  | .ret => none
  | .lpc _ => none
  | .lsf _ => none
  | .ssf _ => none
  | .push _ => some (s.readReg Reg.rsp)
  | .pop _ => none
  | .load _ _ => none
  | .store rd _ => some (s.readReg rd)
  | .loadx _ _ => none
  | .storex _ _ => none
  | .nop => none
  | .reservedOp1110 _ => none
  | .reservedOp1111Ext111x _ => none

/-- The instruction is J, B, CALL, CALLD or RET (R140). -/
def isTransfer (i : Instr) : Bool :=
  match i with
  | .add _ _ => false
  | .addc _ _ => false
  | .mul _ _ => false
  | .sub _ _ => false
  | .cmp _ _ => false
  | .not _ _ => false
  | .and _ _ => false
  | .or _ _ => false
  | .xor _ _ => false
  | .lsh _ _ => false
  | .lshi _ _ => false
  | .rsh _ _ => false
  | .rshi _ _ => false
  | .alsh _ _ => false
  | .alshi _ _ => false
  | .arsh _ _ => false
  | .addi _ _ => false
  | .addci _ _ => false
  | .muli _ _ => false
  | .subi _ _ => false
  | .cmpi _ _ => false
  | .noti _ _ => false
  | .andi _ _ => false
  | .ori _ _ => false
  | .xori _ _ => false
  | .movil _ _ => false
  | .moviu _ _ => false
  | .beq _ => true
  | .bne _ => true
  | .bcs _ => true
  | .bcc _ => true
  | .bfs _ => true
  | .bfc _ => true
  | .blt _ => true
  | .ble _ => true
  | .blo _ => true
  | .bls _ => true
  | .bgt _ => true
  | .bge _ => true
  | .bhi _ => true
  | .bhs _ => true
  | .buc _ => true
  | .bnever _ => true
  | .calld _ => true
  | .arshi _ _ => false
  | .mov _ _ => false
  | .jeq _ => true
  | .jne _ => true
  | .jcs _ => true
  | .jcc _ => true
  | .jfs _ => true
  | .jfc _ => true
  | .jlt _ => true
  | .jle _ => true
  | .jlo _ => true
  | .jls _ => true
  | .jgt _ => true
  | .jge _ => true
  | .jhi _ => true
  | .jhs _ => true
  | .juc _ => true
  | .jnever _ => true
  | .call _ => true
  | .ret => true
  | .lpc _ => false
  | .lsf _ => false
  | .ssf _ => false
  | .push _ => false
  | .pop _ => false
  | .load _ _ => false
  | .store _ _ => false
  | .loadx _ _ => false
  | .storex _ _ => false
  | .nop => false
  | .reservedOp1110 _ => false
  | .reservedOp1111Ext111x _ => false

/-- The instruction is LOADX or STOREX (R33). -/
def isExternal (i : Instr) : Bool :=
  match i with
  | .add _ _ => false
  | .addc _ _ => false
  | .mul _ _ => false
  | .sub _ _ => false
  | .cmp _ _ => false
  | .not _ _ => false
  | .and _ _ => false
  | .or _ _ => false
  | .xor _ _ => false
  | .lsh _ _ => false
  | .lshi _ _ => false
  | .rsh _ _ => false
  | .rshi _ _ => false
  | .alsh _ _ => false
  | .alshi _ _ => false
  | .arsh _ _ => false
  | .addi _ _ => false
  | .addci _ _ => false
  | .muli _ _ => false
  | .subi _ _ => false
  | .cmpi _ _ => false
  | .noti _ _ => false
  | .andi _ _ => false
  | .ori _ _ => false
  | .xori _ _ => false
  | .movil _ _ => false
  | .moviu _ _ => false
  | .beq _ => false
  | .bne _ => false
  | .bcs _ => false
  | .bcc _ => false
  | .bfs _ => false
  | .bfc _ => false
  | .blt _ => false
  | .ble _ => false
  | .blo _ => false
  | .bls _ => false
  | .bgt _ => false
  | .bge _ => false
  | .bhi _ => false
  | .bhs _ => false
  | .buc _ => false
  | .bnever _ => false
  | .calld _ => false
  | .arshi _ _ => false
  | .mov _ _ => false
  | .jeq _ => false
  | .jne _ => false
  | .jcs _ => false
  | .jcc _ => false
  | .jfs _ => false
  | .jfc _ => false
  | .jlt _ => false
  | .jle _ => false
  | .jlo _ => false
  | .jls _ => false
  | .jgt _ => false
  | .jge _ => false
  | .jhi _ => false
  | .jhs _ => false
  | .juc _ => false
  | .jnever _ => false
  | .call _ => false
  | .ret => false
  | .lpc _ => false
  | .lsf _ => false
  | .ssf _ => false
  | .push _ => false
  | .pop _ => false
  | .load _ _ => false
  | .store _ _ => false
  | .loadx _ _ => true
  | .storex _ _ => true
  | .nop => false
  | .reservedOp1110 _ => false
  | .reservedOp1111Ext111x _ => false

/-- The instruction is a shift by an amount in a register (R111). -/
def isRegShift (i : Instr) : Bool :=
  match i with
  | .add _ _ => false
  | .addc _ _ => false
  | .mul _ _ => false
  | .sub _ _ => false
  | .cmp _ _ => false
  | .not _ _ => false
  | .and _ _ => false
  | .or _ _ => false
  | .xor _ _ => false
  | .lsh _ _ => true
  | .lshi _ _ => false
  | .rsh _ _ => true
  | .rshi _ _ => false
  | .alsh _ _ => true
  | .alshi _ _ => false
  | .arsh _ _ => true
  | .addi _ _ => false
  | .addci _ _ => false
  | .muli _ _ => false
  | .subi _ _ => false
  | .cmpi _ _ => false
  | .noti _ _ => false
  | .andi _ _ => false
  | .ori _ _ => false
  | .xori _ _ => false
  | .movil _ _ => false
  | .moviu _ _ => false
  | .beq _ => false
  | .bne _ => false
  | .bcs _ => false
  | .bcc _ => false
  | .bfs _ => false
  | .bfc _ => false
  | .blt _ => false
  | .ble _ => false
  | .blo _ => false
  | .bls _ => false
  | .bgt _ => false
  | .bge _ => false
  | .bhi _ => false
  | .bhs _ => false
  | .buc _ => false
  | .bnever _ => false
  | .calld _ => false
  | .arshi _ _ => false
  | .mov _ _ => false
  | .jeq _ => false
  | .jne _ => false
  | .jcs _ => false
  | .jcc _ => false
  | .jfs _ => false
  | .jfc _ => false
  | .jlt _ => false
  | .jle _ => false
  | .jlo _ => false
  | .jls _ => false
  | .jgt _ => false
  | .jge _ => false
  | .jhi _ => false
  | .jhs _ => false
  | .juc _ => false
  | .jnever _ => false
  | .call _ => false
  | .ret => false
  | .lpc _ => false
  | .lsf _ => false
  | .ssf _ => false
  | .push _ => false
  | .pop _ => false
  | .load _ _ => false
  | .store _ _ => false
  | .loadx _ _ => false
  | .storex _ _ => false
  | .nop => false
  | .reservedOp1110 _ => false
  | .reservedOp1111Ext111x _ => false

end Sys2Proof.Machine
end

