-- ==== Sys2Proof/Machine/Timing.lean ====
section
/-! DEFINITION. The Clock Cycles column of Table 1 (`70_reset_and_hazards.md` R228, R229), as functions BESIDE the
machine: no state holds a clock, no instruction reads one and no step depends on a count (log entry 18). -/

namespace Sys2Proof.Machine

/-- The count of B[condition]: 4 when taken, 3 when not (R228). -/
def branchCycles (c : Cond) (fl : Flags) : Nat := if condHolds c fl then 4 else 3

/-- The count of J[condition]: 5 when taken, 3 when not (R228). -/
def jumpCycles (c : Cond) (fl : Flags) : Nat := if condHolds c fl then 5 else 3

/-- The clock cycles of an instruction on given flags; none for a reserved word, whose cost the spec does not say
(R228, U17). -/
def clockCycles (i : Instr) (fl : Flags) : Option Nat :=
  match i with
  | .add _ _ => some 3
  | .addc _ _ => some 3
  | .mul _ _ => some 3
  | .sub _ _ => some 3
  | .cmp _ _ => some 3
  | .not _ _ => some 3
  | .and _ _ => some 3
  | .or _ _ => some 3
  | .xor _ _ => some 3
  | .lsh _ _ => some 3
  | .lshi _ _ => some 3
  | .rsh _ _ => some 3
  | .rshi _ _ => some 3
  | .alsh _ _ => some 3
  | .alshi _ _ => some 3
  | .arsh _ _ => some 3
  | .addi _ _ => some 3
  | .addci _ _ => some 3
  | .muli _ _ => some 3
  | .subi _ _ => some 3
  | .cmpi _ _ => some 3
  | .noti _ _ => some 3
  | .andi _ _ => some 3
  | .ori _ _ => some 3
  | .xori _ _ => some 3
  | .movil _ _ => some 3
  | .moviu _ _ => some 3
  | .beq _ => some (branchCycles .eq fl)
  | .bne _ => some (branchCycles .ne fl)
  | .bcs _ => some (branchCycles .cs fl)
  | .bcc _ => some (branchCycles .cc fl)
  | .bfs _ => some (branchCycles .fs fl)
  | .bfc _ => some (branchCycles .fc fl)
  | .blt _ => some (branchCycles .lt fl)
  | .ble _ => some (branchCycles .le fl)
  | .blo _ => some (branchCycles .lo fl)
  | .bls _ => some (branchCycles .ls fl)
  | .bgt _ => some (branchCycles .gt fl)
  | .bge _ => some (branchCycles .ge fl)
  | .bhi _ => some (branchCycles .hi fl)
  | .bhs _ => some (branchCycles .hs fl)
  | .buc _ => some (branchCycles .uc fl)
  | .bnever _ => some (branchCycles .never fl)
  | .calld _ => some 4
  | .arshi _ _ => some 3
  | .mov _ _ => some 3
  | .jeq _ => some (jumpCycles .eq fl)
  | .jne _ => some (jumpCycles .ne fl)
  | .jcs _ => some (jumpCycles .cs fl)
  | .jcc _ => some (jumpCycles .cc fl)
  | .jfs _ => some (jumpCycles .fs fl)
  | .jfc _ => some (jumpCycles .fc fl)
  | .jlt _ => some (jumpCycles .lt fl)
  | .jle _ => some (jumpCycles .le fl)
  | .jlo _ => some (jumpCycles .lo fl)
  | .jls _ => some (jumpCycles .ls fl)
  | .jgt _ => some (jumpCycles .gt fl)
  | .jge _ => some (jumpCycles .ge fl)
  | .jhi _ => some (jumpCycles .hi fl)
  | .jhs _ => some (jumpCycles .hs fl)
  | .juc _ => some (jumpCycles .uc fl)
  | .jnever _ => some (jumpCycles .never fl)
  | .call _ => some 5
  | .ret => some 6
  | .lpc _ => some 3
  | .lsf _ => some 3
  | .ssf _ => some 3
  | .push _ => some 4
  | .pop _ => some 4
  | .load _ _ => some 4
  | .store _ _ => some 4
  | .loadx _ _ => some 4
  | .storex _ _ => some 4
  | .nop => some 3
  | .reservedOp1110 _ => none
  | .reservedOp1111Ext111x _ => none

/-- The cycles of the next `k` steps: the sum of the counts of the instructions executed, there being no overlap
(R229); none if a step stops. -/
def runCycles (k : Nat) (s : State) : Option Nat :=
  match k with
  | 0 => some 0
  | k + 1 =>
    match step s with
    | .next t => do return (← clockCycles (decode s.fetch) s.flags) + (← runCycles k t)
    | .fault _ => none
    | .refused _ => none

end Sys2Proof.Machine
end

