-- ==== Sys2Proof/Safety.lean ====
section
/-! DEFINITION. What counts as a safe run, in the terms statements use: what software must keep (R227), what stops
the machine (R206), and when a run has ended (R225). -/

namespace Sys2Proof.Machine

/-- The word is in one of the two reserved ranges (R67). -/
def reservedWord (w : Word) : Bool := isReservedOp1110 w || isReservedOp1111Ext111x w

/-- The next instruction is a defined one (R223 b, R227). -/
def State.runnable (s : State) : Bool := !reservedWord s.fetch

/-- A run has ended by the convention of R225: `pc` addresses the word `BUC -1` (log entry 20). -/
def State.ended (s : State) : Bool := s.fetch == endWord

/-- `k` steps from a state, and each of them is a next state: nothing stops the run. -/
def Runs (k : Nat) (s t : State) : Prop := Host.Core.run Sys2Proof.core k s = .next t

/-- The state is reached from reset with a program image loaded at `base` (R223; log entry 19). -/
def ReachedWith (base : Word) (image : List Word) (t : State) : Prop :=
  ∃ k, Runs k (State.reset.loadImage base image) t

end Sys2Proof.Machine
end

