-- ==== Sys2Proof/Certificates/Slice0/Obligations.lean ====
section
/-! DEFINITION. The statements for the provers. Each says which rule of the spec it formalises. `Spec.…` are the few
forms the statements share; nothing here is used by the model. -/

open Sys2Proof Sys2Proof.Machine

namespace Sys2Proof.Spec

/-- `base | hi << 8 | lo`, the way every instruction rule writes its word (R82 and on). -/
def word (base : Word) (hi lo : Nat) : Word := base ||| (BitVec.ofNat 16 hi <<< 8) ||| BitVec.ofNat 16 lo

/-- One word of main memory has a new value and every other word its old one. -/
def OneWordStored (s t : State) (a v : Word) : Prop := ∀ b, t.readMain b = if b = a then v else s.readMain b

/-- Every word of main memory has its old value. -/
def MemorySame (s t : State) : Prop := ∀ b, t.readMain b = s.readMain b

/-- Registers but those listed, flags, external accesses and draws are as before. -/
def OthersSame (s t : State) (written : List Reg) : Prop :=
  (∀ r, r ∉ written → t.readReg r = s.readReg r) ∧ t.flags = s.flags ∧ t.ext = s.ext ∧ t.draws = s.draws

/-- The state after an instruction whose only effects are one register and `pc <- A + 1`. -/
def wrote (s : State) (rd : Reg) (v : Word) : State := { s with regs := s.regs.set rd v, pc := s.pc + 1 }

/-- The state after an addition, from the exact sums (R81): the result, C and F, and nothing else but `pc`. -/
def added (s : State) (rd : Reg) (b : Word) (k : Nat) : State :=
  let a := s.readReg rd
  let t := a.toNat + b.toNat + k
  let e := a.toInt + b.toInt + k
  { s with regs := s.regs.set rd (BitVec.ofNat 16 t), pc := s.pc + 1,
           flags := { s.flags with c := decide (65536 ≤ t), f := decide (e > 32767 ∨ e < -32768) } }

/-- The state after a subtraction, in the words of R88: borrow, and overflow by the signs. -/
def subtracted (s : State) (rd : Reg) (b : Word) : State :=
  let a := s.readReg rd
  let r := BitVec.ofInt 16 ((a.toNat : Int) - b.toNat)
  { s with regs := s.regs.set rd r, pc := s.pc + 1,
           flags := { s.flags with c := decide (a.toNat < b.toNat), f := a.msb != b.msb && r.msb != a.msb } }

/-- The state after a compare (R90, R92): Z, N and L, and nothing else but `pc`. -/
def compared (s : State) (rd : Reg) (b : Word) : State :=
  let a := s.readReg rd
  { s with pc := s.pc + 1,
           flags := { s.flags with z := decide (a.toNat = b.toNat), n := decide (a.toInt > b.toInt),
                                   l := decide (a.toNat > b.toNat) } }

/-- `a << n`, `a >> n`, `a <<< n`, `a >>> n` in arithmetic, for an amount in range (R110). -/
def shifted (op : ShiftOp) (a : Word) (n : Nat) : Word :=
  match op with
  | .logicalLeft => BitVec.ofNat 16 (a.toNat * 2 ^ n)
  | .logicalRight => BitVec.ofNat 16 (a.toNat / 2 ^ n)
  | .arithLeft => BitVec.ofNat 16 (a.toNat * 2 ^ n)
  | .arithRight => BitVec.ofInt 16 (a.toInt / 2 ^ n)

/-- A register shift completes in every state: in range with the value of R110, out of range with some value, no
other state changing but `pc` and the model's count of draws (R111). -/
def RegShift (i : Instr) (op : ShiftOp) (rd rs : Reg) (s : State) : Prop :=
  ((s.readReg rs).toNat ≤ 15 →
    exec i s = .next (wrote s rd (shifted op (s.readReg rd) (s.readReg rs).toNat))) ∧
  (15 < (s.readReg rs).toNat →
    ∃ v, exec i s = .next { wrote s rd v with draws := s.draws + 1 })

/-- The Clock Cycles column by the bits of a word (R228), with the flags deciding for J and B; a reserved word has no
count. -/
def columnCycles (w : Word) (fl : Flags) : Option Nat :=
  if reservedWord w then none
  else if w &&& 0xF0F0#16 = 0xF020#16 then some (if condHolds (Cond.ofCode (nibble w 8)) fl then 5 else 3)
  else if w &&& 0xF000#16 = 0xC000#16 then some (if condHolds (Cond.ofCode (nibble w 8)) fl then 4 else 3)
  else if w &&& 0xF0F0#16 = 0xF030#16 then some 5
  else if w &&& 0xF0F0#16 = 0xF040#16 then some 6
  else if w &&& 0xF000#16 = 0xD000#16 ∨ (w &&& 0xF000#16 = 0xF000#16 ∧ 8 ≤ nibble w 4) then some 4
  else some 3

/-- The state after a call to a target: the return address at the old `rsp`, `rsp` one lower, `pc` at the target. -/
def Called (i : Instr) (s : State) (target : Word) : Prop :=
  ∃ t, exec i s = .next t ∧ OneWordStored s t (s.readReg Reg.rsp) (s.pc + 1) ∧
    t.readReg Reg.rsp = s.readReg Reg.rsp - 1 ∧ t.pc = target ∧ OthersSame s t [Reg.rsp]

end Sys2Proof.Spec

open Sys2Proof.Spec

/-! ## Encoding -/

/-- Decode and encode agree (R58, R73): no bit of an operand is dropped. Reserved words by the spec's decision D21
(log entry 12), don't-care fields by D20 (log entry 13). -/
def Obligations.DecodeOfEncode : Prop :=
  ∀ i : Instr, i.wellFormed = true → decode (encode i) = i

/-- No bit of a word is dropped but the don't-care bits of the seven instructions of R66: any other word is the
encoding of what it decodes to. Don't-care fields by the spec's decision D20 (log entry 13). -/
def Obligations.EncodeOfDecode : Prop :=
  ∀ w : Word, (nibble w 12 = 15 ∧ 3 ≤ nibble w 4 ∧ nibble w 4 ≤ 9) ∨ encode (decode w) = w

/-- The match and mask table selects the instruction (R73): a word is an instruction of a row exactly when it
matches the row, so the rows are disjoint, and every word matches the row of what it decodes to, so they cover all
words. -/
def Obligations.MatchAndMaskSelect : Prop :=
  ∀ w : Word, (decode w).wellFormed = true ∧ (decode w).row.holds w = true ∧
    ∀ i : Instr, i.wellFormed = true → (i.row.holds w = true ↔ i.row = (decode w).row)

/-- Don't-care fields are ignored on decode and 0000 on encode (R66). The spec's own decision D20 (log entry 13). -/
def Obligations.DontCareFieldsIgnored : Prop :=
  (∀ w : Word,
    (w &&& 0xF0F0#16 = 0xF030#16 → decode w = .call (nibble w 0)) ∧
    (w &&& 0xF0F0#16 = 0xF040#16 → decode w = .ret) ∧
    (w &&& 0xF0F0#16 = 0xF050#16 → decode w = .lpc (nibble w 8)) ∧
    (w &&& 0xF0F0#16 = 0xF060#16 → decode w = .lsf (nibble w 8)) ∧
    (w &&& 0xF0F0#16 = 0xF070#16 → decode w = .ssf (nibble w 0)) ∧
    (w &&& 0xF0F0#16 = 0xF080#16 → decode w = .push (nibble w 0)) ∧
    (w &&& 0xF0F0#16 = 0xF090#16 → decode w = .pop (nibble w 8))) ∧
  ∀ r : Reg,
    encode (.call r) = word 0xF030 0 r.val ∧ encode .ret = 0xF040#16 ∧ encode (.lpc r) = word 0xF050 r.val 0 ∧
    encode (.lsf r) = word 0xF060 r.val 0 ∧ encode (.ssf r) = word 0xF070 0 r.val ∧
    encode (.push r) = word 0xF080 0 r.val ∧ encode (.pop r) = word 0xF090 r.val 0

/-- Words written out from the format tables decode to the instructions they stand for (R52 to R57, R61). -/
def Obligations.WrittenWordsDecode : Prop :=
  decode 0b0000_0001_0000_0010#16 = .add 1 2 ∧ decode 0b0001_0011_1111_1111#16 = .addi 3 0xFF#8 ∧
  decode 0b0000_0011_1100_1000#16 = .rshi 3 8#4 ∧ decode 0b1100_0001_1111_1100#16 = .bne 0xFC#8 ∧
  decode 0b1111_1110_0010_1110#16 = .juc 14 ∧ decode 0b1101_1000_0000_0000#16 = .calld 0x800#12 ∧
  decode 0b1111_0010_1011_1010#16 = .store 2 10 ∧ decode 0b1111_0001_1101_0010#16 = .storex 1 2 ∧
  decode 0b1111_1111_1111_1111#16 = .reservedOp1111Ext111x 0xFFFF#16

/-- How an immediate is widened (R62, R63, R64, R65): sign-extended 8 and 12 bits keep their signed value,
zero-extended 8 bits and 4-bit amounts their unsigned value. -/
def Obligations.ImmediatesKeepTheirValue : Prop :=
  (∀ imm8 : BitVec 8, (sextImm8 imm8).toInt = imm8.toInt ∧ (zextImm8 imm8).toNat = imm8.toNat) ∧
  (∀ imm12 : BitVec 12, (sextImm12 imm12).toInt = imm12.toInt) ∧
  ∀ imm4 : BitVec 4, shiftAmount imm4 = imm4.toNat ∧ shiftAmount imm4 ≤ 15

/-! ## The step -/

/-- A step runs the decoded instruction, and adds nothing around it (R3). Fetching from main memory is the spec's
own decision D3 (log entry 15). -/
def Obligations.StepRunsDecodedInstruction : Prop :=
  ∀ (s : State) (i : Instr), decode s.fetch = i → i.wellFormed = true → step s = exec i s

/-- A step runs the instruction whose encoding main memory holds at `pc` (R3, R42, R58). Fetching from main memory
is the spec's own decision D3 (log entry 15). -/
def Obligations.StepRunsStoredEncoding : Prop :=
  ∀ (s : State) (i : Instr), i.wellFormed = true →
    Memory.read s.mem s.pc.toNat = some (encode i) → step s = exec i s

/-- Nothing but a reserved word stops the machine, in any state (R200, R201, R206, R209): every step is a next
state unless the word at `pc` is reserved, and then it is the fault that names the address and the word. The spec's
own decisions D21 and D22 (log entries 12 and 23). -/
def Obligations.OnlyReservedWordsStop : Prop :=
  ∀ s : State,
    (reservedWord s.fetch = false → ∃ t, step s = .next t) ∧
    (reservedWord s.fetch = true → step s = .fault (.illegalInstruction s.pc s.fetch))

/-- The two reserved instructions end in the model-level fault (R67, R206). The spec's own decision D21 (log entry
12). -/
def Obligations.ReservedInstructionsFault : Prop :=
  ∀ (iw : Word) (s : State),
    exec (.reservedOp1110 iw) s = .fault (.illegalInstruction s.pc iw) ∧
    exec (.reservedOp1111Ext111x iw) s = .fault (.illegalInstruction s.pc iw)

/-- Every step keeps the canonical form of main memory, in every state that has it (R22, R44). The form is the
model's own choice (log entry 3). -/
def Obligations.StepKeepsMemoryCanonical : Prop :=
  ∀ s t : State, s.mem.wf → step s = .next t → t.mem.wf

/-- Main memory has its canonical form at reset and after an image is loaded (R223). The form is the model's own
choice (log entry 3). -/
def Obligations.ResetAndLoadedMemoryCanonical : Prop :=
  State.reset.mem.wf ∧ ∀ (base : Word) (image : List Word), (State.reset.loadImage base image).mem.wf

/-- After reset the first instruction is fetched from address 0x0000 (R220). The address is the spec's own decision
D24 (log entry 1); the load from outside is log entry 19. -/
def Obligations.ResetFetchesAtZero : Prop :=
  State.reset.pc = 0x0000#16 ∧ ∀ image : List Word,
    step (State.reset.loadImage 0 image) =
      exec (decode ((State.reset.loadImage 0 image).readMain 0x0000#16)) (State.reset.loadImage 0 image)

/-- The stack pointer starts at 0xFFFF, so that the first word pushed after reset lands there (R25, R172; the
value is the spec's decision D25, log entry 1). -/
def Obligations.FirstPushLandsAtTop : Prop :=
  State.reset.readReg Reg.rsp = 0xFFFF#16 ∧ ∀ rs : Reg, ∃ t, exec (.push rs) State.reset = .next t ∧
    OneWordStored State.reset t 0xFFFF#16 (State.reset.readReg rs) ∧ t.readReg Reg.rsp = 0xFFFE#16

/-! ## Frames of all instructions -/

/-- No instruction changes a register but those it writes (R12, R33, R80). -/
def Obligations.OtherRegistersUnchanged : Prop :=
  ∀ (i : Instr) (s t : State), exec i s = .next t → ∀ r, r ∉ regsWritten i → t.readReg r = s.readReg r

/-- No instruction changes a flag but those the policy lets it write (R19). The policy is the spec's own decision
D10 (log entry 7). -/
def Obligations.OtherFlagsUnchanged : Prop :=
  ∀ (i : Instr) (s t : State), exec i s = .next t → ∀ name, name ∉ flagsWritten i → t.flags.get name = s.flags.get name

/-- No instruction changes a word of main memory but the one it stores (R33). -/
def Obligations.OtherWordsUnchanged : Prop :=
  ∀ (i : Instr) (s t : State), exec i s = .next t → ∀ a, storeAddr i s ≠ some a → t.readMain a = s.readMain a

/-- Only LOADX and STOREX reach the external space, each exactly once and after all accesses before it (R36); and
only a register shift draws from the model's own counter, at most once (log entry 5). The record is the spec's own
decision D4 (log entry 6). -/
def Obligations.ExternalAccessesAndDraws : Prop :=
  ∀ (i : Instr) (s t : State), exec i s = .next t →
    (isExternal i = false → t.ext = s.ext) ∧ (isExternal i = true → ∃ e, t.ext = s.ext ++ [e]) ∧
    (isRegShift i = false → t.draws = s.draws) ∧ (t.draws = s.draws ∨ t.draws = s.draws + 1)

/-- An instruction that is not a control transfer goes on to the next word, and so does a J or B whose condition
does not hold (R15). That the sum wraps is the spec's own decision D6 (log entry 14). -/
def Obligations.SequentialAdvance : Prop :=
  (∀ (i : Instr) (s t : State), isTransfer i = false → exec i s = .next t → t.pc = s.pc + 1) ∧
  ∀ (c : Cond) (s : State), condHolds c s.flags = false →
    (∀ rs, ∃ t, exec (Instr.jump c rs) s = .next t ∧ t.pc = s.pc + 1) ∧
    (∀ imm8, ∃ t, exec (Instr.branch c imm8) s = .next t ∧ t.pc = s.pc + 1)

/-! ## Arithmetic and compare -/

/-- ADD and ADDI (R82, R83), with the overflow of R81 and its second form by the signs. That C and F are written,
and their meaning, are the spec's own decisions D10 and D11 (log entry 7). -/
def Obligations.AddAndAddi : Prop :=
  (∀ (rd rs : Reg) (s : State), encode (.add rd rs) = word 0x0000 rd.val rs.val ∧
    clockCycles (.add rd rs) s.flags = some 3 ∧ exec (.add rd rs) s = .next (added s rd (s.readReg rs) 0)) ∧
  (∀ (rd : Reg) (imm8 : BitVec 8) (s : State), encode (.addi rd imm8) = word 0x1000 rd.val imm8.toNat ∧
    clockCycles (.addi rd imm8) s.flags = some 3 ∧
    exec (.addi rd imm8) s = .next (added s rd (BitVec.ofInt 16 imm8.toInt) 0)) ∧
  ∀ (s : State) (rd : Reg) (b : Word),
    (added s rd b 0).flags.f = ((s.readReg rd).msb == b.msb && (s.readReg rd + b).msb != (s.readReg rd).msb)

/-- ADDC and ADDCI add the constant 1 and do not read C (R84, R85). The constant is the spec's own decision D7 (log
entry 9), the flags are D10 and D11 (log entry 7). -/
def Obligations.AddcAndAddci : Prop :=
  (∀ (rd rs : Reg) (s : State), encode (.addc rd rs) = word 0x0010 rd.val rs.val ∧
    clockCycles (.addc rd rs) s.flags = some 3 ∧ exec (.addc rd rs) s = .next (added s rd (s.readReg rs) 1)) ∧
  ∀ (rd : Reg) (imm8 : BitVec 8) (s : State), encode (.addci rd imm8) = word 0x2000 rd.val imm8.toNat ∧
    clockCycles (.addci rd imm8) s.flags = some 3 ∧
    exec (.addci rd imm8) s = .next (added s rd (BitVec.ofInt 16 imm8.toInt) 1)

/-- MUL and MULI: the low sixteen bits of the product, the same signed or unsigned; no flag (R86, R87). Low half
and no flag are the spec's own decision D36 (log entry 7). -/
def Obligations.MulAndMuli : Prop :=
  (∀ (rd rs : Reg) (s : State), encode (.mul rd rs) = word 0x0020 rd.val rs.val ∧
    clockCycles (.mul rd rs) s.flags = some 3 ∧
    exec (.mul rd rs) s = .next (wrote s rd (BitVec.ofNat 16 ((s.readReg rd).toNat * (s.readReg rs).toNat))) ∧
    exec (.mul rd rs) s = .next (wrote s rd (BitVec.ofInt 16 ((s.readReg rd).toInt * (s.readReg rs).toInt)))) ∧
  ∀ (rd : Reg) (imm8 : BitVec 8) (s : State), encode (.muli rd imm8) = word 0x3000 rd.val imm8.toNat ∧
    clockCycles (.muli rd imm8) s.flags = some 3 ∧
    exec (.muli rd imm8) s = .next (wrote s rd (BitVec.ofInt 16 ((s.readReg rd).toInt * imm8.toInt)))

/-- SUB and SUBI (R88, R89). That C and F are written, and their meaning, are the spec's own decisions D10 and D11
(log entry 7). -/
def Obligations.SubAndSubi : Prop :=
  (∀ (rd rs : Reg) (s : State), encode (.sub rd rs) = word 0x0030 rd.val rs.val ∧
    clockCycles (.sub rd rs) s.flags = some 3 ∧ exec (.sub rd rs) s = .next (subtracted s rd (s.readReg rs))) ∧
  ∀ (rd : Reg) (imm8 : BitVec 8) (s : State), encode (.subi rd imm8) = word 0x4000 rd.val imm8.toNat ∧
    clockCycles (.subi rd imm8) s.flags = some 3 ∧
    exec (.subi rd imm8) s = .next (subtracted s rd (BitVec.ofInt 16 imm8.toInt))

/-- CMP and CMPI (R90, R91): no register is written. That C and F stay, and the values of Z, N and L, are the
spec's own decisions D10 and D12 (log entry 7). -/
def Obligations.CmpAndCmpi : Prop :=
  (∀ (rd rs : Reg) (s : State), encode (.cmp rd rs) = word 0x0040 rd.val rs.val ∧
    clockCycles (.cmp rd rs) s.flags = some 3 ∧ exec (.cmp rd rs) s = .next (compared s rd (s.readReg rs))) ∧
  ∀ (rd : Reg) (imm8 : BitVec 8) (s : State), encode (.cmpi rd imm8) = word 0x5000 rd.val imm8.toNat ∧
    clockCycles (.cmpi rd imm8) s.flags = some 3 ∧
    exec (.cmpi rd imm8) s = .next (compared s rd (BitVec.ofInt 16 imm8.toInt))

/-- After a compare each condition on Z, N and L stands for the relation Table 2 gives it between the operands, and
N or L never holds together with Z (R92). The spec's own reading of Table 2, D12 and D34 (log entry 7). -/
def Obligations.CompareMeansItsConditions : Prop :=
  ∀ (s t : State) (a b : Word),
    ((∃ rd rs, a = s.readReg rd ∧ b = s.readReg rs ∧ exec (.cmp rd rs) s = .next t) ∨
     (∃ rd imm8, a = s.readReg rd ∧ b = BitVec.ofInt 16 imm8.toInt ∧ exec (.cmpi rd imm8) s = .next t)) →
    (condHolds .eq t.flags = true ↔ a = b) ∧ (condHolds .ne t.flags = true ↔ a ≠ b) ∧
    (condHolds .lt t.flags = true ↔ a.toInt < b.toInt) ∧ (condHolds .le t.flags = true ↔ a.toInt ≤ b.toInt) ∧
    (condHolds .gt t.flags = true ↔ a.toInt > b.toInt) ∧ (condHolds .ge t.flags = true ↔ a.toInt ≥ b.toInt) ∧
    (condHolds .lo t.flags = true ↔ a.toNat < b.toNat) ∧ (condHolds .ls t.flags = true ↔ a.toNat ≤ b.toNat) ∧
    (condHolds .hi t.flags = true ↔ a.toNat > b.toNat) ∧ (condHolds .hs t.flags = true ↔ a.toNat ≥ b.toNat) ∧
    ¬ (t.flags.n = true ∧ t.flags.z = true) ∧ ¬ (t.flags.l = true ∧ t.flags.z = true)

/-! ## Logic -/

/-- NOT and NOTI complement all sixteen bits, the immediate's upper byte becoming 0xFF; NOT does not read Rdest
(R101, R102). That `!` is bitwise is the spec's own decision D8 (log entry 10). -/
def Obligations.NotAndNoti : Prop :=
  (∀ (rd rs : Reg) (s : State), encode (.not rd rs) = word 0x0050 rd.val rs.val ∧
    clockCycles (.not rd rs) s.flags = some 3 ∧ exec (.not rd rs) s = .next (wrote s rd (~~~ s.readReg rs))) ∧
  ∀ (rd : Reg) (imm8 : BitVec 8) (s : State), encode (.noti rd imm8) = word 0x6000 rd.val imm8.toNat ∧
    clockCycles (.noti rd imm8) s.flags = some 3 ∧ exec (.noti rd imm8) s = .next (wrote s rd (0xFF#8 ++ ~~~ imm8))

/-- AND and ANDI; ANDI clears the upper byte (R103, R104). -/
def Obligations.AndAndAndi : Prop :=
  (∀ (rd rs : Reg) (s : State), encode (.and rd rs) = word 0x0060 rd.val rs.val ∧
    clockCycles (.and rd rs) s.flags = some 3 ∧
    exec (.and rd rs) s = .next (wrote s rd (s.readReg rd &&& s.readReg rs))) ∧
  ∀ (rd : Reg) (imm8 : BitVec 8) (s : State), encode (.andi rd imm8) = word 0x7000 rd.val imm8.toNat ∧
    clockCycles (.andi rd imm8) s.flags = some 3 ∧
    exec (.andi rd imm8) s = .next (wrote s rd (0x00#8 ++ ((s.readReg rd).extractLsb' 0 8 &&& imm8)))

/-- OR and ORI; ORI keeps the upper byte (R105, R106). -/
def Obligations.OrAndOri : Prop :=
  (∀ (rd rs : Reg) (s : State), encode (.or rd rs) = word 0x0070 rd.val rs.val ∧
    clockCycles (.or rd rs) s.flags = some 3 ∧
    exec (.or rd rs) s = .next (wrote s rd (s.readReg rd ||| s.readReg rs))) ∧
  ∀ (rd : Reg) (imm8 : BitVec 8) (s : State), encode (.ori rd imm8) = word 0x8000 rd.val imm8.toNat ∧
    clockCycles (.ori rd imm8) s.flags = some 3 ∧
    exec (.ori rd imm8) s =
      .next (wrote s rd ((s.readReg rd).extractLsb' 8 8 ++ ((s.readReg rd).extractLsb' 0 8 ||| imm8)))

/-- XOR and XORI; XORI keeps the upper byte, and `XOR rd, rd` gives 0 (R107, R108). -/
def Obligations.XorAndXori : Prop :=
  (∀ (rd rs : Reg) (s : State), encode (.xor rd rs) = word 0x0080 rd.val rs.val ∧
    clockCycles (.xor rd rs) s.flags = some 3 ∧
    exec (.xor rd rs) s = .next (wrote s rd (s.readReg rd ^^^ s.readReg rs)) ∧
    exec (.xor rd rd) s = .next (wrote s rd 0)) ∧
  ∀ (rd : Reg) (imm8 : BitVec 8) (s : State), encode (.xori rd imm8) = word 0x9000 rd.val imm8.toNat ∧
    clockCycles (.xori rd imm8) s.flags = some 3 ∧
    exec (.xori rd imm8) s =
      .next (wrote s rd ((s.readReg rd).extractLsb' 8 8 ++ ((s.readReg rd).extractLsb' 0 8 ^^^ imm8)))

/-! ## Shifts -/

/-- The immediate shifts, in the arithmetic of R110 (R113, R115, R117, R119). The operators are read by the spec's
own decision D14 (log entry 22). -/
def Obligations.ImmediateShifts : Prop :=
  ∀ (rd : Reg) (imm4 : BitVec 4) (s : State),
    (encode (.lshi rd imm4) = word 0x00A0 rd.val imm4.toNat ∧ clockCycles (.lshi rd imm4) s.flags = some 3 ∧
      exec (.lshi rd imm4) s = .next (wrote s rd (shifted .logicalLeft (s.readReg rd) imm4.toNat))) ∧
    (encode (.rshi rd imm4) = word 0x00C0 rd.val imm4.toNat ∧ clockCycles (.rshi rd imm4) s.flags = some 3 ∧
      exec (.rshi rd imm4) s = .next (wrote s rd (shifted .logicalRight (s.readReg rd) imm4.toNat))) ∧
    (encode (.alshi rd imm4) = word 0x00E0 rd.val imm4.toNat ∧ clockCycles (.alshi rd imm4) s.flags = some 3 ∧
      exec (.alshi rd imm4) s = .next (wrote s rd (shifted .arithLeft (s.readReg rd) imm4.toNat))) ∧
    (encode (.arshi rd imm4) = word 0xF000 rd.val imm4.toNat ∧ clockCycles (.arshi rd imm4) s.flags = some 3 ∧
      exec (.arshi rd imm4) s = .next (wrote s rd (shifted .arithRight (s.readReg rd) imm4.toNat)))

/-- The register shifts, in range and out of it (R112, R114, R116, R118; out of range the value is free: log entry
5). The operators are read by the spec's own decision D14 (log entry 22), the range is D13. -/
def Obligations.RegisterShifts : Prop :=
  ∀ (rd rs : Reg) (s : State),
    (encode (.lsh rd rs) = word 0x0090 rd.val rs.val ∧ clockCycles (.lsh rd rs) s.flags = some 3 ∧
      RegShift (.lsh rd rs) .logicalLeft rd rs s) ∧
    (encode (.rsh rd rs) = word 0x00B0 rd.val rs.val ∧ clockCycles (.rsh rd rs) s.flags = some 3 ∧
      RegShift (.rsh rd rs) .logicalRight rd rs s) ∧
    (encode (.alsh rd rs) = word 0x00D0 rd.val rs.val ∧ clockCycles (.alsh rd rs) s.flags = some 3 ∧
      RegShift (.alsh rd rs) .arithLeft rd rs s) ∧
    (encode (.arsh rd rs) = word 0x00F0 rd.val rs.val ∧ clockCycles (.arsh rd rs) s.flags = some 3 ∧
      RegShift (.arsh rd rs) .arithRight rd rs s)

/-- An arithmetic left shift gives the result of the logical one for every amount in range, and is a distinct
encoding (R121). By the spec's own decision D14 (log entry 22). -/
def Obligations.ArithmeticLeftIsLogicalLeft : Prop :=
  (∀ (rd rs : Reg) (s : State), (s.readReg rs).toNat ≤ 15 → exec (.alsh rd rs) s = exec (.lsh rd rs) s) ∧
  (∀ (rd : Reg) (imm4 : BitVec 4) (s : State), exec (.alshi rd imm4) s = exec (.lshi rd imm4) s) ∧
  (∀ rd rs rd' rs', encode (.alsh rd rs) ≠ encode (.lsh rd' rs')) ∧
  ∀ rd imm4 rd' imm4', encode (.alshi rd imm4) ≠ encode (.lshi rd' imm4')

/-- A shift by 0 leaves the value unchanged in all eight instructions (R120). By the spec's own decision D14 (log
entry 22). -/
def Obligations.ShiftByZeroKeepsTheValue : Prop :=
  ∀ (rd rs : Reg) (s : State),
    (s.readReg rs = 0 →
      exec (.lsh rd rs) s = .next { s with pc := s.pc + 1 } ∧ exec (.rsh rd rs) s = .next { s with pc := s.pc + 1 } ∧
      exec (.alsh rd rs) s = .next { s with pc := s.pc + 1 } ∧ exec (.arsh rd rs) s = .next { s with pc := s.pc + 1 }) ∧
    exec (.lshi rd 0) s = .next { s with pc := s.pc + 1 } ∧ exec (.rshi rd 0) s = .next { s with pc := s.pc + 1 } ∧
    exec (.alshi rd 0) s = .next { s with pc := s.pc + 1 } ∧ exec (.arshi rd 0) s = .next { s with pc := s.pc + 1 }

/-! ## Moves -/

/-- MOV, MOVIL and MOVIU (R131, R132, R133): the byte MOVIL and MOVIU do not name is kept, in numbers. That the
other byte is kept is the spec's own decision D15 (log entry 11). -/
def Obligations.MovMovilMoviu : Prop :=
  (∀ (rd rs : Reg) (s : State), encode (.mov rd rs) = word 0xF010 rd.val rs.val ∧
    clockCycles (.mov rd rs) s.flags = some 3 ∧ exec (.mov rd rs) s = .next (wrote s rd (s.readReg rs))) ∧
  ∀ (rd : Reg) (imm8 : BitVec 8) (s : State),
    (encode (.movil rd imm8) = word 0xA000 rd.val imm8.toNat ∧ clockCycles (.movil rd imm8) s.flags = some 3 ∧
      exec (.movil rd imm8) s =
        .next (wrote s rd (BitVec.ofNat 16 ((s.readReg rd).toNat / 256 * 256 + imm8.toNat)))) ∧
    (encode (.moviu rd imm8) = word 0xB000 rd.val imm8.toNat ∧ clockCycles (.moviu rd imm8) s.flags = some 3 ∧
      exec (.moviu rd imm8) s =
        .next (wrote s rd (BitVec.ofNat 16 (imm8.toNat * 256 + (s.readReg rd).toNat % 256))))

/-- Loading a 16-bit constant: MOVIL and MOVIU in either order, and the sequence ANDI, MOVIU, ORI (R133). The first
two rest on the spec's own decision D15 (log entry 11). -/
def Obligations.ConstantIsLoaded : Prop :=
  ∀ (k : Word) (rd : Reg) (s : State),
    (∃ t u, exec (.movil rd (k.extractLsb' 0 8)) s = .next t ∧ exec (.moviu rd (k.extractLsb' 8 8)) t = .next u ∧
      u = { s with regs := s.regs.set rd k, pc := s.pc + 2 }) ∧
    (∃ t u, exec (.moviu rd (k.extractLsb' 8 8)) s = .next t ∧ exec (.movil rd (k.extractLsb' 0 8)) t = .next u ∧
      u = { s with regs := s.regs.set rd k, pc := s.pc + 2 }) ∧
    ∃ t u v, exec (.andi rd 0) s = .next t ∧ exec (.moviu rd (k.extractLsb' 8 8)) t = .next u ∧
      exec (.ori rd (k.extractLsb' 0 8)) u = .next v ∧ v = { s with regs := s.regs.set rd k, pc := s.pc + 3 }

/-! ## Control transfer -/

/-- The predicate of every condition code and its bit pattern (Table 2, R141). -/
def Obligations.ConditionTable : Prop :=
  (∀ fl : Flags,
    condHolds (Cond.ofCode 0b0000) fl = decide (fl.z = true) ∧ condHolds (Cond.ofCode 0b0001) fl = decide (fl.z = false) ∧
    condHolds (Cond.ofCode 0b0010) fl = decide (fl.c = true) ∧ condHolds (Cond.ofCode 0b0011) fl = decide (fl.c = false) ∧
    condHolds (Cond.ofCode 0b0100) fl = decide (fl.f = true) ∧ condHolds (Cond.ofCode 0b0101) fl = decide (fl.f = false) ∧
    condHolds (Cond.ofCode 0b0110) fl = decide (fl.n = false ∧ fl.z = false) ∧
    condHolds (Cond.ofCode 0b0111) fl = decide (fl.n = false) ∧
    condHolds (Cond.ofCode 0b1000) fl = decide (fl.l = false ∧ fl.z = false) ∧
    condHolds (Cond.ofCode 0b1001) fl = decide (fl.l = false) ∧ condHolds (Cond.ofCode 0b1010) fl = decide (fl.n = true) ∧
    condHolds (Cond.ofCode 0b1011) fl = decide (fl.n = true ∨ fl.z = true) ∧
    condHolds (Cond.ofCode 0b1100) fl = decide (fl.l = true) ∧
    condHolds (Cond.ofCode 0b1101) fl = decide (fl.l = true ∨ fl.z = true) ∧
    condHolds (Cond.ofCode 0b1110) fl = true ∧ condHolds (Cond.ofCode 0b1111) fl = false) ∧
  ∀ w : Word, (w &&& 0xF000#16 = 0xC000#16 → decode w = Instr.branch (Cond.ofCode (nibble w 8)) (imm8Of w)) ∧
    (w &&& 0xF0F0#16 = 0xF020#16 → decode w = Instr.jump (Cond.ofCode (nibble w 8)) (nibble w 0))

/-- J[condition], all sixteen: the absolute address in the register, or the next instruction (R143). -/
def Obligations.JumpOnCondition : Prop :=
  ∀ (c : Cond) (rs : Reg) (s : State),
    encode (Instr.jump c rs) = word 0xF020 c.code.toNat rs.val ∧
    clockCycles (Instr.jump c rs) s.flags = some (if condHolds c s.flags then 5 else 3) ∧
    exec (Instr.jump c rs) s = .next { s with pc := if condHolds c s.flags then s.readReg rs else s.pc + 1 }

/-- B[condition], all sixteen: `A + 1` plus the signed displacement modulo 2^16, or the next instruction (R144).
The base of the displacement is the spec's own decision D16 (log entry 17). -/
def Obligations.BranchOnCondition : Prop :=
  ∀ (c : Cond) (imm8 : BitVec 8) (s : State),
    encode (Instr.branch c imm8) = word 0xC000 c.code.toNat imm8.toNat ∧
    clockCycles (Instr.branch c imm8) s.flags = some (if condHolds c s.flags then 4 else 3) ∧
    exec (Instr.branch c imm8) s =
      .next { s with pc := if condHolds c s.flags then BitVec.ofInt 16 (s.pc.toNat + 1 + imm8.toInt) else s.pc + 1 }

/-- To reach address T from A the immediate is `T - A - 1` (R71, R144): a taken B with that displacement, where it
is one of the range -128 to 127, goes to T. The base of the displacement is the spec's own decision D16 (log entry
17). -/
def Obligations.DisplacementReachesTarget : Prop :=
  ∀ (c : Cond) (s : State) (target : Word) (d : Int), condHolds c s.flags = true → -128 ≤ d → d ≤ 127 →
    (target - s.pc - 1).toInt = d →
    exec (Instr.branch c (BitVec.ofInt 8 d)) s = .next { s with pc := target }

/-- For every flag state exactly one condition of each complementary pair sends a J to its target (R142). That the
flags alone decide is the spec's own decision D34 (log entry 7). -/
def Obligations.ComplementaryConditions : Prop :=
  ∀ (c d : Cond) (rs : Reg) (s : State),
    (c, d) ∈ [(Cond.eq, Cond.ne), (.cs, .cc), (.fs, .fc), (.lt, .ge), (.le, .gt), (.lo, .hs), (.ls, .hi), (.uc, .never)] →
    (exec (Instr.jump c rs) s = .next { s with pc := s.readReg rs } ∧
      exec (Instr.jump d rs) s = .next { s with pc := s.pc + 1 }) ∨
    (exec (Instr.jump c rs) s = .next { s with pc := s.pc + 1 } ∧
      exec (Instr.jump d rs) s = .next { s with pc := s.readReg rs })

/-- CALL and CALLD (R146, R147); `CALL rsp` goes to the old `rsp`. The stack, the order and the base of the
displacement are the spec's own decisions D18, D19 and D16 (log entries 16 and 17). -/
def Obligations.CallAndCalld : Prop :=
  (∀ (rs : Reg) (s : State), encode (.call rs) = word 0xF030 0 rs.val ∧ clockCycles (.call rs) s.flags = some 5 ∧
    Called (.call rs) s (s.readReg rs)) ∧
  ∀ (imm12 : BitVec 12) (s : State), encode (.calld imm12) = 0xD000#16 ||| BitVec.ofNat 16 imm12.toNat ∧
    clockCycles (.calld imm12) s.flags = some 4 ∧
    Called (.calld imm12) s (BitVec.ofInt 16 (s.pc.toNat + 1 + imm12.toInt))

/-- RET: `rsp` incremented, `pc` from the word there, nothing else (R148). The stack is the spec's own decision D18
(log entry 16). -/
def Obligations.RetPopsIntoPc : Prop :=
  ∀ s : State, encode .ret = 0xF040#16 ∧ clockCycles .ret s.flags = some 6 ∧
    exec .ret s = .next { s with regs := s.regs.set Reg.rsp (s.readReg Reg.rsp + 1),
                                 pc := s.readMain (s.readReg Reg.rsp + 1) }

/-- A return after a call, once `rsp` is where the call left it and the return address still in its word, comes
back to the instruction after the call with `rsp` as it was (R152, R146, R147, R148). The stack is the spec's own
decision D18 (log entry 16). -/
def Obligations.ReturnComesBack : Prop :=
  ∀ (s t u : State), ((∃ rs, exec (.call rs) s = .next t) ∨ (∃ imm12, exec (.calld imm12) s = .next t)) →
    u.readReg Reg.rsp = t.readReg Reg.rsp → u.readMain (s.readReg Reg.rsp) = t.readMain (s.readReg Reg.rsp) →
    ∃ v, exec .ret u = .next v ∧ v.pc = s.pc + 1 ∧ v.readReg Reg.rsp = s.readReg Reg.rsp

/-- LPC: the address of the next instruction, modulo 2^16 (R149). -/
def Obligations.LpcReadsNextAddress : Prop :=
  ∀ (rd : Reg) (s : State), encode (.lpc rd) = word 0xF050 rd.val 0 ∧ clockCycles (.lpc rd) s.flags = some 3 ∧
    exec (.lpc rd) s = .next (wrote s rd (BitVec.ofNat 16 (s.pc.toNat + 1)))

/-! ## Status flags -/

/-- LSF: the five flags zero-extended, N Z F L C from bit 4 to bit 0 (R160). The order of the bits is the spec's
own decision D9 (log entry 8). -/
def Obligations.LsfReadsFlags : Prop :=
  ∀ (rd : Reg) (s : State), encode (.lsf rd) = word 0xF060 rd.val 0 ∧ clockCycles (.lsf rd) s.flags = some 3 ∧
    exec (.lsf rd) s = .next (wrote s rd (BitVec.ofNat 16
      (16 * s.flags.n.toNat + 8 * s.flags.z.toNat + 4 * s.flags.f.toNat + 2 * s.flags.l.toNat + s.flags.c.toNat)))

/-- SSF: all five flags from the low five bits, the others ignored (R161). The order of the bits is the spec's own
decision D9 (log entry 8). -/
def Obligations.SsfWritesFlags : Prop :=
  ∀ (rs : Reg) (s : State), encode (.ssf rs) = word 0xF070 0 rs.val ∧ clockCycles (.ssf rs) s.flags = some 3 ∧
    exec (.ssf rs) s =
      .next { s with pc := s.pc + 1,
                     flags := { c := decide ((s.readReg rs).toNat % 2 = 1),
                                l := decide ((s.readReg rs).toNat / 2 % 2 = 1),
                                f := decide ((s.readReg rs).toNat / 4 % 2 = 1),
                                z := decide ((s.readReg rs).toNat / 8 % 2 = 1),
                                n := decide ((s.readReg rs).toNat / 16 % 2 = 1) } }

/-- LSF followed later by SSF of the same value restores all five flags, whatever they became in between (R162).
True of every order of the bits (log entry 8). -/
def Obligations.FlagsSavedAndRestored : Prop :=
  ∀ (rd rs : Reg) (s t u : State), exec (.lsf rd) s = .next t → u.readReg rs = t.readReg rd →
    ∃ v, exec (.ssf rs) u = .next v ∧ v.flags = s.flags

/-! ## Stack and memory -/

/-- PUSH: the old value of Rsrc at the old `rsp`, then `rsp` one lower (R170). The order is the spec's own decision
D19 (log entry 16). -/
def Obligations.PushStoresThenDecrements : Prop :=
  ∀ (rs : Reg) (s : State), encode (.push rs) = word 0xF080 0 rs.val ∧ clockCycles (.push rs) s.flags = some 4 ∧
    ∃ t, exec (.push rs) s = .next t ∧ OneWordStored s t (s.readReg Reg.rsp) (s.readReg rs) ∧
      t.readReg Reg.rsp = s.readReg Reg.rsp - 1 ∧ t.pc = s.pc + 1 ∧ OthersSame s t [Reg.rsp]

/-- POP: `rsp` one higher, then Rdest from the word there; `POP rsp` ends with the loaded word (R171). The order is
the spec's own decision D19 (log entry 16). -/
def Obligations.PopIncrementsThenLoads : Prop :=
  ∀ (rd : Reg) (s : State), encode (.pop rd) = word 0xF090 rd.val 0 ∧ clockCycles (.pop rd) s.flags = some 4 ∧
    ∃ t, exec (.pop rd) s = .next t ∧ t.readReg rd = s.readMain (s.readReg Reg.rsp + 1) ∧
      (rd ≠ Reg.rsp → t.readReg Reg.rsp = s.readReg Reg.rsp + 1) ∧ t.pc = s.pc + 1 ∧
      MemorySame s t ∧ OthersSame s t [rd, Reg.rsp]

/-- A pop right after a push gives back the word pushed, and `rsp` (R172). The order is the spec's own decision D19
(log entry 16). -/
def Obligations.PopGivesBackPush : Prop :=
  ∀ (rs rd : Reg) (s t : State), exec (.push rs) s = .next t →
    ∃ u, exec (.pop rd) t = .next u ∧ u.readReg rd = s.readReg rs ∧
      (rd ≠ Reg.rsp → u.readReg Reg.rsp = s.readReg Reg.rsp)

/-- Nothing detects the ends of the stack: `rsp` wraps (R45). The spec's own decisions D6 and D35 (log entry 14). -/
def Obligations.StackPointerWraps : Prop :=
  (∀ (rs : Reg) (s : State), s.readReg Reg.rsp = 0x0000#16 →
    ∃ t, exec (.push rs) s = .next t ∧ t.readMain 0x0000#16 = s.readReg rs ∧ t.readReg Reg.rsp = 0xFFFF#16) ∧
  ∀ s : State, s.readReg Reg.rsp = 0xFFFF#16 →
    (∀ rd : Reg, rd ≠ Reg.rsp → ∃ t, exec (.pop rd) s = .next t ∧ t.readReg Reg.rsp = 0x0000#16 ∧
      t.readReg rd = s.readMain 0x0000#16) ∧
    ∃ t, exec .ret s = .next t ∧ t.readReg Reg.rsp = 0x0000#16 ∧ t.pc = s.readMain 0x0000#16

/-- LOAD: the word at the address in the register, read before Rdest is written (R173). -/
def Obligations.LoadReadsWord : Prop :=
  ∀ (rd rs : Reg) (s : State), encode (.load rd rs) = word 0xF0A0 rd.val rs.val ∧
    clockCycles (.load rd rs) s.flags = some 4 ∧ exec (.load rd rs) s = .next (wrote s rd (s.readMain (s.readReg rs)))

/-- STORE: one word, at the address in the first register; no register is written (R174). -/
def Obligations.StoreWritesWord : Prop :=
  ∀ (rd rs : Reg) (s : State), encode (.store rd rs) = word 0xF0B0 rd.val rs.val ∧
    clockCycles (.store rd rs) s.flags = some 4 ∧
    ∃ t, exec (.store rd rs) s = .next t ∧ OneWordStored s t (s.readReg rd) (s.readReg rs) ∧ t.pc = s.pc + 1 ∧
      OthersSame s t []

/-- A store into the next word is what the next step runs (R42, R39). The spec's own decisions D3, D27 and D28 (log
entry 15). -/
def Obligations.StoredInstructionRunsNext : Prop :=
  ∀ (rd rs : Reg) (s t : State) (i : Instr), decode s.fetch = .store rd rs → s.readReg rd = s.pc + 1 →
    i.wellFormed = true → s.readReg rs = encode i → step s = .next t → step t = exec i t

/-- LOADX: some value, answered by the environment, and the access recorded; two reads need not agree (R175, R36).
The answer is free by the spec's own decision D4 (log entry 6). -/
def Obligations.LoadxTakesAnAnswer : Prop :=
  ∀ (rd rs : Reg) (s : State), encode (.loadx rd rs) = word 0xF0C0 rd.val rs.val ∧
    clockCycles (.loadx rd rs) s.flags = some 4 ∧
    ∃ v, exec (.loadx rd rs) s = .next { wrote s rd v with ext := s.ext ++ [.read (s.readReg rs) v] }

/-- STOREX: the value presented at the address and recorded; main memory and registers unchanged (R176). The
recorded event is the spec's own decision D4 (log entry 6). -/
def Obligations.StorexPresentsValue : Prop :=
  ∀ (rd rs : Reg) (s : State), encode (.storex rd rs) = word 0xF0D0 rd.val rs.val ∧
    clockCycles (.storex rd rs) s.flags = some 4 ∧
    exec (.storex rd rs) s =
      .next { s with ext := s.ext ++ [.write (s.readReg rd) (s.readReg rs)], pc := s.pc + 1 }

/-! ## NOP, encodings that do nothing, the end of a run, time -/

/-- NOP is the word 0x0070, which decodes as `OR r0, r0`, and changes nothing but `pc` (R190). That the word decodes to
OR and never to the NOP constructor is the model's choice, DEDUCED from the opcode table's note (log entry 21). -/
def Obligations.NopIsOrOfRegisterZero : Prop :=
  encode .nop = 0x0070#16 ∧ decode 0x0070#16 = .or 0 0 ∧ ∀ s : State, clockCycles .nop s.flags = some 3 ∧
    exec .nop s = exec (.or 0 0) s ∧ exec .nop s = .next { s with pc := s.pc + 1 }

/-- The encodings that change no state but `pc`, and two words that are not of them (R68). By the flag policy D10
(log entry 7). -/
def Obligations.EncodingsThatDoNothing : Prop :=
  (∀ (s : State) (rd rs : Reg) (imm8 : BitVec 8) (i : Instr),
    i ∈ [.bnever imm8, .jnever rs, .or rd rd, .and rd rd, .mov rd rd, .lshi rd 0, .rshi rd 0, .alshi rd 0, .arshi rd 0,
         .ori rd 0, .xori rd 0, .nop] →
    exec i s = .next { s with pc := s.pc + 1 }) ∧
  decode 0x0000#16 = .add 0 0 ∧ decode 0xFFFF#16 = .reservedOp1111Ext111x 0xFFFF#16

/-- At the end-of-run word, and at a JUC to its own address, the state no longer changes (R225). The convention is
the spec's own decision D29 (log entry 20). -/
def Obligations.EndedRunsStandStill : Prop :=
  (∀ s : State, s.ended = true → step s = .next s) ∧
  ∀ (s : State) (rs : Reg), decode s.fetch = .juc rs → s.readReg rs = s.pc → step s = .next s

/-- The time of a run is the sum of the counts of R228 over the instructions executed (R229): no step costs nothing,
a step costs the count of the instruction it executes on the flags it finds, a run costs its parts, and where a step
stops there is no time. The counts are those of the Clock Cycles column for every word and every flag state (R228).
That they add up is the spec's own decision D33, and timing stands beside the machine (log entry 18). -/
def Obligations.CyclesAdd : Prop :=
  (∀ s : State, runCycles 0 s = some 0) ∧
  (∀ s t : State, step s = .next t → runCycles 1 s = clockCycles (decode s.fetch) s.flags) ∧
  (∀ (k m : Nat) (s t : State), Runs k s t →
    runCycles (k + m) s = (do return (← runCycles k s) + (← runCycles m t))) ∧
  (∀ (k : Nat) (s : State), (∀ t, step s ≠ .next t) → runCycles (k + 1) s = none) ∧
  ∀ (w : Word) (fl : Flags), clockCycles (decode w) fl = columnCycles w fl
end

