-- ==== Sys2Proof/Laws/State.lean ====
section
/-! SUPPORT. The small lemmas of the state: one per field per update, so that no proof unfolds a record update, and the
reads of registers and memory through each update. -/

namespace Sys2Proof.Machine

variable (s : State)

/-! ## One lemma per field per update -/

@[simp] theorem State.writeReg_regs (r : Reg) (v : Word) : (s.writeReg r v).regs = s.regs.set r v := rfl
@[simp] theorem State.writeReg_pc (r : Reg) (v : Word) : (s.writeReg r v).pc = s.pc := rfl
@[simp] theorem State.writeReg_flags (r : Reg) (v : Word) : (s.writeReg r v).flags = s.flags := rfl
@[simp] theorem State.writeReg_mem (r : Reg) (v : Word) : (s.writeReg r v).mem = s.mem := rfl
@[simp] theorem State.writeReg_ext (r : Reg) (v : Word) : (s.writeReg r v).ext = s.ext := rfl
@[simp] theorem State.writeReg_draws (r : Reg) (v : Word) : (s.writeReg r v).draws = s.draws := rfl

@[simp] theorem State.setPc_regs (a : Word) : (s.setPc a).regs = s.regs := rfl
@[simp] theorem State.setPc_pc (a : Word) : (s.setPc a).pc = a := rfl
@[simp] theorem State.setPc_flags (a : Word) : (s.setPc a).flags = s.flags := rfl
@[simp] theorem State.setPc_mem (a : Word) : (s.setPc a).mem = s.mem := rfl
@[simp] theorem State.setPc_ext (a : Word) : (s.setPc a).ext = s.ext := rfl
@[simp] theorem State.setPc_draws (a : Word) : (s.setPc a).draws = s.draws := rfl

@[simp] theorem State.advance_regs : (s.advance).regs = s.regs := rfl
@[simp] theorem State.advance_pc : (s.advance).pc = s.pc + 1 := rfl
@[simp] theorem State.advance_flags : (s.advance).flags = s.flags := rfl
@[simp] theorem State.advance_mem : (s.advance).mem = s.mem := rfl
@[simp] theorem State.advance_ext : (s.advance).ext = s.ext := rfl
@[simp] theorem State.advance_draws : (s.advance).draws = s.draws := rfl

@[simp] theorem State.setFlags_regs (fl : Flags) : (s.setFlags fl).regs = s.regs := rfl
@[simp] theorem State.setFlags_pc (fl : Flags) : (s.setFlags fl).pc = s.pc := rfl
@[simp] theorem State.setFlags_flags (fl : Flags) : (s.setFlags fl).flags = fl := rfl
@[simp] theorem State.setFlags_mem (fl : Flags) : (s.setFlags fl).mem = s.mem := rfl
@[simp] theorem State.setFlags_ext (fl : Flags) : (s.setFlags fl).ext = s.ext := rfl
@[simp] theorem State.setFlags_draws (fl : Flags) : (s.setFlags fl).draws = s.draws := rfl

@[simp] theorem State.writeMain_regs (a v : Word) : (s.writeMain a v).regs = s.regs := rfl
@[simp] theorem State.writeMain_pc (a v : Word) : (s.writeMain a v).pc = s.pc := rfl
@[simp] theorem State.writeMain_flags (a v : Word) : (s.writeMain a v).flags = s.flags := rfl
@[simp] theorem State.writeMain_mem (a v : Word) : (s.writeMain a v).mem = Memory.write s.mem a.toNat v := rfl
@[simp] theorem State.writeMain_ext (a v : Word) : (s.writeMain a v).ext = s.ext := rfl
@[simp] theorem State.writeMain_draws (a v : Word) : (s.writeMain a v).draws = s.draws := rfl

@[simp] theorem State.recordExt_regs (e : ExtEvent) : (s.recordExt e).regs = s.regs := rfl
@[simp] theorem State.recordExt_pc (e : ExtEvent) : (s.recordExt e).pc = s.pc := rfl
@[simp] theorem State.recordExt_flags (e : ExtEvent) : (s.recordExt e).flags = s.flags := rfl
@[simp] theorem State.recordExt_mem (e : ExtEvent) : (s.recordExt e).mem = s.mem := rfl
@[simp] theorem State.recordExt_ext (e : ExtEvent) : (s.recordExt e).ext = s.ext ++ [e] := rfl
@[simp] theorem State.recordExt_draws (e : ExtEvent) : (s.recordExt e).draws = s.draws := rfl

@[simp] theorem State.countDraw_regs : (s.countDraw).regs = s.regs := rfl
@[simp] theorem State.countDraw_pc : (s.countDraw).pc = s.pc := rfl
@[simp] theorem State.countDraw_flags : (s.countDraw).flags = s.flags := rfl
@[simp] theorem State.countDraw_mem : (s.countDraw).mem = s.mem := rfl
@[simp] theorem State.countDraw_ext : (s.countDraw).ext = s.ext := rfl
@[simp] theorem State.countDraw_draws : (s.countDraw).draws = s.draws + 1 := rfl

@[simp] theorem State.finish_regs (r : Reg) (v : Word) : (s.finish r v).regs = s.regs.set r v := rfl
@[simp] theorem State.finish_pc (r : Reg) (v : Word) : (s.finish r v).pc = s.pc + 1 := rfl
@[simp] theorem State.finish_flags (r : Reg) (v : Word) : (s.finish r v).flags = s.flags := rfl
@[simp] theorem State.finish_mem (r : Reg) (v : Word) : (s.finish r v).mem = s.mem := rfl
@[simp] theorem State.finish_ext (r : Reg) (v : Word) : (s.finish r v).ext = s.ext := rfl
@[simp] theorem State.finish_draws (r : Reg) (v : Word) : (s.finish r v).draws = s.draws := rfl

@[simp] theorem State.push_regs (v : Word) : (s.push v).regs = s.regs.set Reg.rsp (s.readReg Reg.rsp - 1) := rfl
@[simp] theorem State.push_pc (v : Word) : (s.push v).pc = s.pc := rfl
@[simp] theorem State.push_flags (v : Word) : (s.push v).flags = s.flags := rfl
@[simp] theorem State.push_mem (v : Word) : (s.push v).mem = Memory.write s.mem (s.readReg Reg.rsp).toNat v := rfl
@[simp] theorem State.push_ext (v : Word) : (s.push v).ext = s.ext := rfl
@[simp] theorem State.push_draws (v : Word) : (s.push v).draws = s.draws := rfl

@[simp] theorem State.popped_regs : (s.popped).regs = s.regs.set Reg.rsp (s.readReg Reg.rsp + 1) := rfl
@[simp] theorem State.popped_pc : (s.popped).pc = s.pc := rfl
@[simp] theorem State.popped_flags : (s.popped).flags = s.flags := rfl
@[simp] theorem State.popped_mem : (s.popped).mem = s.mem := rfl
@[simp] theorem State.popped_ext : (s.popped).ext = s.ext := rfl
@[simp] theorem State.popped_draws : (s.popped).draws = s.draws := rfl

/-! ## Reading a register -/

theorem State.readReg_eq (r : Reg) : s.readReg r = s.regs[r] := rfl

/-- A register read gives the value last written to it and any other register its old value (R11). -/
@[simp] theorem State.readReg_writeReg (r q : Reg) (v : Word) :
    (s.writeReg r v).readReg q = if q = r then v else s.readReg q := by
  simp [State.readReg_eq, Vector.getElem_set, Fin.ext_iff, eq_comm]

@[simp] theorem State.readReg_setPc (q : Reg) (a : Word) :
    (s.setPc a).readReg q = s.readReg q := rfl
@[simp] theorem State.readReg_advance (q : Reg) :
    (s.advance).readReg q = s.readReg q := rfl
@[simp] theorem State.readReg_setFlags (q : Reg) (fl : Flags) :
    (s.setFlags fl).readReg q = s.readReg q := rfl
@[simp] theorem State.readReg_writeMain (q : Reg) (a v : Word) :
    (s.writeMain a v).readReg q = s.readReg q := rfl
@[simp] theorem State.readReg_recordExt (q : Reg) (e : ExtEvent) :
    (s.recordExt e).readReg q = s.readReg q := rfl
@[simp] theorem State.readReg_countDraw (q : Reg) :
    (s.countDraw).readReg q = s.readReg q := rfl
@[simp] theorem State.readReg_finish (q : Reg) (r : Reg) (v : Word) :
    (s.finish r v).readReg q = if q = r then v else s.readReg q := s.readReg_writeReg r q v
@[simp] theorem State.readReg_push (q : Reg) (v : Word) :
    (s.push v).readReg q = if q = Reg.rsp then s.readReg Reg.rsp - 1 else s.readReg q := (s.writeMain (s.readReg Reg.rsp) v).readReg_writeReg Reg.rsp q _
@[simp] theorem State.readReg_popped (q : Reg) :
    (s.popped).readReg q = if q = Reg.rsp then s.readReg Reg.rsp + 1 else s.readReg q := s.readReg_writeReg Reg.rsp q _

/-! ## Reading main memory -/

@[simp] theorem State.readMain_writeReg (b : Word) (r : Reg) (v : Word) :
    (s.writeReg r v).readMain b = s.readMain b := rfl
@[simp] theorem State.readMain_setPc (b : Word) (a : Word) :
    (s.setPc a).readMain b = s.readMain b := rfl
@[simp] theorem State.readMain_advance (b : Word) :
    (s.advance).readMain b = s.readMain b := rfl
@[simp] theorem State.readMain_setFlags (b : Word) (fl : Flags) :
    (s.setFlags fl).readMain b = s.readMain b := rfl
@[simp] theorem State.readMain_recordExt (b : Word) (e : ExtEvent) :
    (s.recordExt e).readMain b = s.readMain b := rfl
@[simp] theorem State.readMain_countDraw (b : Word) :
    (s.countDraw).readMain b = s.readMain b := rfl
@[simp] theorem State.readMain_finish (b : Word) (r : Reg) (v : Word) :
    (s.finish r v).readMain b = s.readMain b := rfl
@[simp] theorem State.readMain_popped (b : Word) :
    (s.popped).readMain b = s.readMain b := rfl

theorem State.readMain_congr {s t : State} (h : s.mem = t.mem) (b : Word) : s.readMain b = t.readMain b := by
  simp [State.readMain, h]

theorem State.fetch_eq : s.fetch = s.readMain s.pc := rfl

@[simp] theorem State.nextPc_eq : s.nextPc = s.pc + 1 := rfl

@[simp] theorem State.popAddr_eq : s.popAddr = s.readReg Reg.rsp + 1 := rfl

@[simp] theorem State.popWord_eq : s.popWord = s.readMain (s.readReg Reg.rsp + 1) := rfl

/-! ## Two states with the same fields are the same state -/

theorem State.ext_fields {s t : State} (hr : ∀ r, s.readReg r = t.readReg r) (hp : s.pc = t.pc)
    (hf : s.flags = t.flags) (hm : s.mem = t.mem) (he : s.ext = t.ext) (hd : s.draws = t.draws) : s = t := by
  have hregs : s.regs = t.regs := Vector.ext fun i hi => hr ⟨i, hi⟩
  cases s
  cases t
  simp_all

end Sys2Proof.Machine
end

