-- ==== Sys2Proof/Laws/Memory.lean ====
section
/-! SUPPORT. What memory operations do: read after write, every other address left alone, and the canonical form
kept. -/

namespace Sys2Proof.Machine

/-! ## Reads after writes, in any list of cells -/

/-- A write is seen by a read of its address and by no other read (R35). -/
theorem Memory.read_write (m : Memory) (a b : Nat) (v : Word) :
    Memory.read (Memory.write m a v) b = if b = a then some v else Memory.read m b := by
  induction m with
  | nil => simp [Memory.write, Memory.read]
  | cons c rest ih =>
    obtain ⟨d, u⟩ := c
    by_cases h1 : a < d
    · simp [Memory.write, h1, Memory.read]
    · by_cases h2 : a = d
      · subst h2
        by_cases h3 : b = a <;> simp [Memory.write, Memory.read, h3]
      · by_cases h3 : b = d
        · subst h3
          simp [Memory.write, Memory.read, h1, h2, Ne.symm h2]
        · simp [Memory.write, Memory.read, h1, h2, h3, ih]

/-- Through the state: `MemRead` after `MemWrite` (R35, R39 a). -/
@[simp] theorem State.readMain_writeMain (s : State) (a b v : Word) :
    (s.writeMain a v).readMain b = if b = a then v else s.readMain b := by
  by_cases h : b = a
  · simp [State.readMain, Memory.read_write, h]
  · have hn : ¬ b.toNat = a.toNat := fun e => h (BitVec.eq_of_toNat_eq e)
    simp [State.readMain, Memory.read_write, h, hn]

/-- A push stores at the old `rsp` and nowhere else (R170). -/
@[simp] theorem State.readMain_push (s : State) (v b : Word) :
    (s.push v).readMain b = if b = s.readReg Reg.rsp then v else s.readMain b := by
  show (s.writeMain (s.readReg Reg.rsp) v).readMain b = _
  simp

/-! ## The canonical form -/

theorem Memory.wf_nil : Memory.wf [] := ⟨List.Pairwise.nil, fun _ h => absurd h (List.not_mem_nil)⟩

/-- Every cell of a written memory is the cell written or an old one. -/
theorem Memory.mem_write {m : Memory} {a : Nat} {v : Word} {c : Nat × Word} (h : c ∈ Memory.write m a v) :
    c = (a, v) ∨ c ∈ m := by
  induction m with
  | nil => simpa [Memory.write] using h
  | cons d rest ih =>
    obtain ⟨b, u⟩ := d
    simp only [Memory.write] at h
    split_ifs at h with h1 h2
    · simpa using h
    · rcases List.mem_cons.1 h with h | h
      · exact .inl h
      · exact .inr (List.mem_cons_of_mem _ h)
    · rcases List.mem_cons.1 h with h | h
      · exact .inr (h ▸ List.mem_cons_self)
      · exact (ih h).imp_right (List.mem_cons_of_mem _)

/-- A write inside the address space keeps the canonical form. -/
theorem Memory.write_wf {m : Memory} (h : Memory.wf m) {a : Nat} (ha : a < mainMemWords) (v : Word) :
    Memory.wf (Memory.write m a v) := by
  refine ⟨?_, fun c hc => ?_⟩
  · obtain ⟨hp, -⟩ := h
    induction m with
    | nil => simp [Memory.write]
    | cons d rest ih =>
      obtain ⟨b, u⟩ := d
      obtain ⟨hb, hrest⟩ := List.pairwise_cons.1 hp
      simp only [Memory.write]
      split_ifs with h1 h2
      · refine List.pairwise_cons.2 ⟨fun c hc => ?_, hp⟩
        rcases List.mem_cons.1 hc with rfl | hc
        · exact h1
        · exact lt_trans h1 (hb c hc)
      · subst h2
        exact List.pairwise_cons.2 ⟨hb, hrest⟩
      · refine List.pairwise_cons.2 ⟨fun c hc => ?_, ih hrest⟩
        rcases Memory.mem_write hc with rfl | hc
        · exact lt_of_le_of_ne (not_lt.1 h1) (Ne.symm h2)
        · exact hb c hc
  · rcases Memory.mem_write hc with rfl | hc
    · exact ha
    · exact h.2 c hc

/-- Every write through the state keeps the canonical form. -/
theorem State.writeMain_wf {s : State} (h : s.mem.wf) (a v : Word) : (s.writeMain a v).mem.wf :=
  Memory.write_wf h a.isLt v

theorem State.push_wf {s : State} (h : s.mem.wf) (v : Word) : (s.push v).mem.wf :=
  State.writeMain_wf h _ v

/-- Loading an image keeps the canonical form (R223). -/
theorem State.loadImage_wf {s : State} (h : s.mem.wf) (base : Word) (image : List Word) :
    (s.loadImage base image).mem.wf := by
  induction image generalizing s base with
  | nil => exact h
  | cons w rest ih => exact ih (State.writeMain_wf h base w) (base + 1)

theorem State.withFetchWord_wf {s : State} (h : s.mem.wf) (nbits w : Nat) : (s.withFetchWord nbits w).mem.wf :=
  State.loadImage_wf h _ _

/-- In canonical form two memories with the same reads are the same list: equal memories are equal data. -/
theorem Memory.eq_of_read_eq {m m' : Memory} (h : Memory.wf m) (h' : Memory.wf m')
    (hr : ∀ a, Memory.read m a = Memory.read m' a) : m = m' := by
  have below : ∀ {l : Memory} {a : Nat}, (∀ c ∈ l, a < c.1) → Memory.read l a = none := by
    intro l a hl
    induction l with
    | nil => rfl
    | cons c rest ih =>
      have := hl c List.mem_cons_self
      simp [Memory.read, Nat.ne_of_lt this, ih fun d hd => hl d (List.mem_cons_of_mem _ hd)]
  obtain ⟨h, -⟩ := h
  obtain ⟨h', -⟩ := h'
  induction m generalizing m' with
  | nil =>
    cases m' with
    | nil => rfl
    | cons c rest => simpa [Memory.read] using hr c.1
  | cons c rest ih =>
    cases m' with
    | nil => simpa [Memory.read] using hr c.1
    | cons d rest' =>
      obtain ⟨hc, hrest⟩ := List.pairwise_cons.1 h
      obtain ⟨hd, hrest'⟩ := List.pairwise_cons.1 h'
      have hcd : c.1 = d.1 := by
        rcases lt_trichotomy c.1 d.1 with hlt | heq | hgt
        · have := hr c.1
          rw [below (l := d :: rest') (by
            intro e he
            rcases List.mem_cons.1 he with rfl | he
            · exact hlt
            · exact lt_trans hlt (hd e he))] at this
          simp [Memory.read] at this
        · exact heq
        · have := hr d.1
          rw [below (l := c :: rest) (by
            intro e he
            rcases List.mem_cons.1 he with rfl | he
            · exact hgt
            · exact lt_trans hgt (hc e he))] at this
          simp [Memory.read] at this
      have hval : c.2 = d.2 := by simpa [Memory.read, hcd] using hr c.1
      have htail : rest = rest' := by
        refine ih (fun a => ?_) hrest hrest'
        by_cases ha : a = c.1
        · subst ha
          rw [below hc, below (hcd ▸ hd)]
        · simpa [Memory.read, ha, hcd ▸ ha] using hr a
      rw [htail, Prod.ext hcd hval]

end Sys2Proof.Machine
end

