-- ==== Sys2Proof/Laws/Ops.lean ====
section
/-! SUPPORT. Each shared operation of the meanings, as one equation that says everything it does, and each way a
meaning can answer. -/

namespace Sys2Proof.Machine

variable (s : State)

/-- Write a result and go on: one register and `pc` change. -/
theorem State.finish_does (rd : Reg) (v : Word) :
    s.finish rd v = { s with regs := s.regs.set rd v, pc := s.pc + 1 } := rfl

/-- A push changes the word at the old `rsp` and decrements `rsp` (R170). -/
theorem State.push_does (v : Word) :
    s.push v = { s with regs := s.regs.set Reg.rsp (s.readReg Reg.rsp - 1),
                        mem := Memory.write s.mem (s.readReg Reg.rsp).toNat v } := rfl

/-- A pop increments `rsp` and changes nothing else (R171). -/
theorem State.popped_does : s.popped = { s with regs := s.regs.set Reg.rsp (s.readReg Reg.rsp + 1) } := rfl

/-- An addition changes its destination, C, F and `pc` (R82, R84). -/
theorem State.addTo_does (rd : Reg) (b : Word) (k : Bool) :
    s.addTo rd b k =
      { s with regs := s.regs.set rd (addValue (s.readReg rd) b k), pc := s.pc + 1,
               flags := { s.flags with c := addCarry (s.readReg rd) b k, f := addOverflow (s.readReg rd) b k } } := rfl

/-- A subtraction changes its destination, C, F and `pc` (R88). -/
theorem State.subFrom_does (rd : Reg) (b : Word) :
    s.subFrom rd b =
      { s with regs := s.regs.set rd (s.readReg rd - b), pc := s.pc + 1,
               flags := { s.flags with c := subBorrow (s.readReg rd) b, f := subOverflow (s.readReg rd) b } } := rfl

/-- A compare changes Z, N, L and `pc` (R90). -/
theorem State.compareWith_does (rd : Reg) (b : Word) :
    s.compareWith rd b =
      { s with pc := s.pc + 1,
               flags := { s.flags with z := s.readReg rd == b, n := decide (b.toInt < (s.readReg rd).toInt),
                                       l := decide (b.toNat < (s.readReg rd).toNat) } } := rfl

/-- A shift by an immediate changes its destination and `pc` (R113). -/
theorem State.shiftByImm_does (op : ShiftOp) (rd : Reg) (imm4 : BitVec 4) :
    s.shiftByImm op rd imm4 =
      { s with regs := s.regs.set rd (shiftValue op (s.readReg rd) imm4.toNat), pc := s.pc + 1 } := rfl

/-- A register shift in range changes its destination and `pc`; out of range the value written is the free value and
one draw is counted (R111). -/
theorem State.shiftByReg_does (op : ShiftOp) (rd rs : Reg) :
    s.shiftByReg op rd rs =
      if (s.readReg rs).toNat ≤ 15 then
        { s with regs := s.regs.set rd (shiftValue op (s.readReg rd) (s.readReg rs).toNat), pc := s.pc + 1 }
      else
        { s with regs := s.regs.set rd (s.drawnShift op (s.readReg rd) (s.readReg rs)), pc := s.pc + 1,
                 draws := s.draws + 1 } := by
  by_cases h : (s.readReg rs).toNat ≤ 15 <;> simp [State.shiftByReg, shiftInRange, h] <;> rfl

/-- A jump changes `pc` alone (R143). -/
theorem State.jumpIf_does (c : Cond) (rs : Reg) :
    s.jumpIf c rs = { s with pc := if condHolds c s.flags then s.readReg rs else s.pc + 1 } := by
  cases h : condHolds c s.flags <;> simp [State.jumpIf, h] <;> rfl

/-- A branch changes `pc` alone (R144). -/
theorem State.branchIf_does (c : Cond) (imm8 : BitVec 8) :
    s.branchIf c imm8 = { s with pc := if condHolds c s.flags then s.pc + 1 + sextImm8 imm8 else s.pc + 1 } := by
  cases h : condHolds c s.flags <;> simp [State.branchIf, h] <;> rfl

/-- A call changes the word at the old `rsp`, `rsp` and `pc` (R146, R147). -/
theorem State.callTo_does (target : Word) :
    s.callTo target =
      { s with regs := s.regs.set Reg.rsp (s.readReg Reg.rsp - 1), pc := target,
               mem := Memory.write s.mem (s.readReg Reg.rsp).toNat (s.pc + 1) } := rfl

/-- A reserved word stops the machine and changes nothing (R206). -/
theorem illegalInstruction_does (iw : Word) :
    illegalInstruction s iw = .fault (.illegalInstruction s.pc iw) := rfl

/-- A meaning that answers `next` answers one state. -/
theorem next_injective {t u : State} (h : (.next t : Result) = .next u) : t = u := by injection h

/-- Loading one word is one write (R223). -/
theorem State.loadImage_singleton (base w : Word) : s.loadImage base [w] = s.writeMain base w := rfl

/-- The word placed for the next step is the word it fetches. -/
theorem State.fetch_withFetchWord (w : Nat) (h : w < 65536) : (s.withFetchWord 16 w).fetch = BitVec.ofNat 16 w := by
  have hw : w % 2 ^ 16 = w := Nat.mod_eq_of_lt h
  show (s.writeMain s.pc (BitVec.ofNat 16 (w % 2 ^ 16))).readMain s.pc = _
  rw [hw]
  simp

/-- Loading an image changes main memory alone. -/
theorem State.loadImage_frame (base : Word) (image : List Word) :
    (s.loadImage base image).regs = s.regs ∧ (s.loadImage base image).pc = s.pc ∧
      (s.loadImage base image).flags = s.flags ∧ (s.loadImage base image).ext = s.ext ∧
      (s.loadImage base image).draws = s.draws := by
  induction image generalizing s base with
  | nil => exact ⟨rfl, rfl, rfl, rfl, rfl⟩
  | cons w rest ih => exact ih (s.writeMain base w) (base + 1)

end Sys2Proof.Machine
end

