-- ==== Sys2Proof/Laws/Values.lean ====
section
/-! SUPPORT. The operand values and flag computations, in unsigned arithmetic. -/

namespace Sys2Proof.Machine

/-- The 17-bit sum is exact (R82). -/
theorem sum17_toNat (a b : Word) (k : Bool) : (sum17 a b k).toNat = a.toNat + b.toNat + k.toNat := by
  have ha := a.isLt
  have hb := b.isLt
  have hk : k.toNat ≤ 1 := Bool.toNat_le k
  simp only [sum17, BitVec.toNat_add, BitVec.toNat_setWidth, BitVec.toNat_ofBool]
  omega

/-- The sum written is the exact sum modulo 2^16 (R81). -/
theorem addValue_toNat (a b : Word) (k : Bool) :
    (addValue a b k).toNat = (a.toNat + b.toNat + k.toNat) % 65536 := by
  simp [addValue, sum17_toNat]

/-- The product written is the exact product modulo 2^16 (R86). -/
theorem mulValue_toNat (a b : Word) : (mulValue a b).toNat = a.toNat * b.toNat % 65536 := by
  simp [mulValue]

/-- A 4-bit shift amount is in range (R64). -/
theorem shiftAmount_le (imm4 : BitVec 4) : shiftAmount imm4 ≤ 15 := Nat.le_of_lt_succ imm4.isLt

/-- LSF reads what each flag's bit says (R18). -/
theorem flagWord_getLsbD (name : FlagName) (b : Bool) (i : Nat) :
    (flagWord name b).getLsbD i = (decide (i = flagBit name) && b) := by
  cases name <;> cases b <;>
    simp only [flagWord, flagBit, BitVec.ofBool_false, BitVec.ofBool_true, Bool.and_false, Bool.and_true] <;>
    (by_cases hi : i < 16
     · interval_cases i <;> decide
     · simp [BitVec.getLsbD_of_ge _ _ (not_lt.1 hi),
         show i ≠ 0 ∧ i ≠ 1 ∧ i ≠ 2 ∧ i ≠ 3 ∧ i ≠ 4 by omega])

end Sys2Proof.Machine
end

