-- ==== Sys2Proof/Laws/Decode.lean ====
section
/-! SUPPORT. The fields of an encoded word, and the word of its fields. -/

namespace Sys2Proof

@[simp] theorem regBits_toFin (r : Reg) : (regBits r).toFin = r := rfl

@[simp] theorem regBits_ofNibble (b : BitVec 4) : regBits b.toFin = b := rfl

/-! ## The bits of a word built from fields (R51, R54, R55, R56) -/

theorem getLsbD_encodeFields (op a b c : BitVec 4) (i : Nat) :
    (encodeFields op a b c).getLsbD i =
      if i < 4 then c.getLsbD i else if i < 8 then b.getLsbD (i - 4)
      else if i < 12 then a.getLsbD (i - 8) else op.getLsbD (i - 12) := by
  have h : (encodeFields op a b c).getLsbD i = BitVec.getLsbD (w := 4 + 4 + 4 + 4) (op ++ a ++ b ++ c) i := rfl
  rw [h]
  simp only [BitVec.getLsbD_append, Nat.sub_sub]
  split_ifs <;> first | rfl | omega

theorem getLsbD_encodeImm8 (op a : BitVec 4) (imm8 : BitVec 8) (i : Nat) :
    (encodeImm8 op a imm8).getLsbD i =
      if i < 8 then imm8.getLsbD i else if i < 12 then a.getLsbD (i - 8) else op.getLsbD (i - 12) := by
  have h : (encodeImm8 op a imm8).getLsbD i = BitVec.getLsbD (w := 4 + 4 + 8) (op ++ a ++ imm8) i := rfl
  rw [h]
  simp only [BitVec.getLsbD_append, Nat.sub_sub]
  split_ifs <;> first | rfl | omega

theorem getLsbD_encodeImm12 (op : BitVec 4) (imm12 : BitVec 12) (i : Nat) :
    (encodeImm12 op imm12).getLsbD i = if i < 12 then imm12.getLsbD i else op.getLsbD (i - 12) := by
  have h : (encodeImm12 op imm12).getLsbD i = BitVec.getLsbD (w := 4 + 12) (op ++ imm12) i := rfl
  rw [h, BitVec.getLsbD_append]

/-- A field is equal to four bits when each of its bits is. -/
theorem nibble_eq (w : Word) (lo : Nat) (b : BitVec 4) (h : ∀ i, i < 4 → w.getLsbD (lo + i) = b.getLsbD i) :
    nibble w lo = b.toFin := by
  unfold nibble
  congr 1
  ext i hi
  simpa [BitVec.getElem_extractLsb', BitVec.getLsbD_eq_getElem hi] using h i hi

/-! ## The fields of each format -/

@[simp] theorem op_encodeFields (op a b c : BitVec 4) : nibble (encodeFields op a b c) 12 = op.toFin :=
  nibble_eq _ _ _ fun i hi => by
    rw [getLsbD_encodeFields, if_neg (by omega), if_neg (by omega), if_neg (by omega), Nat.add_sub_cancel_left]

@[simp] theorem rd_encodeFields (op a b c : BitVec 4) : nibble (encodeFields op a b c) 8 = a.toFin :=
  nibble_eq _ _ _ fun i hi => by
    rw [getLsbD_encodeFields, if_neg (by omega), if_neg (by omega), if_pos (by omega), Nat.add_sub_cancel_left]

@[simp] theorem ext_encodeFields (op a b c : BitVec 4) : nibble (encodeFields op a b c) 4 = b.toFin :=
  nibble_eq _ _ _ fun i hi => by
    rw [getLsbD_encodeFields, if_neg (by omega), if_pos (by omega), Nat.add_sub_cancel_left]

@[simp] theorem rs_encodeFields (op a b c : BitVec 4) : nibble (encodeFields op a b c) 0 = c.toFin :=
  nibble_eq _ _ _ fun i hi => by
    rw [getLsbD_encodeFields, if_pos (by omega), Nat.zero_add]

@[simp] theorem imm4_encodeFields (op a b c : BitVec 4) : imm4Of (encodeFields op a b c) = c :=
  congrArg BitVec.ofFin (rs_encodeFields op a b c)

@[simp] theorem op_encodeImm8 (op a : BitVec 4) (imm8 : BitVec 8) : nibble (encodeImm8 op a imm8) 12 = op.toFin :=
  nibble_eq _ _ _ fun i hi => by
    rw [getLsbD_encodeImm8, if_neg (by omega), if_neg (by omega), Nat.add_sub_cancel_left]

@[simp] theorem rd_encodeImm8 (op a : BitVec 4) (imm8 : BitVec 8) : nibble (encodeImm8 op a imm8) 8 = a.toFin :=
  nibble_eq _ _ _ fun i hi => by
    rw [getLsbD_encodeImm8, if_neg (by omega), if_pos (by omega), Nat.add_sub_cancel_left]

@[simp] theorem imm8_encodeImm8 (op a : BitVec 4) (imm8 : BitVec 8) : imm8Of (encodeImm8 op a imm8) = imm8 := by
  unfold imm8Of
  ext i hi
  rw [BitVec.getElem_extractLsb', getLsbD_encodeImm8, if_pos (by omega), Nat.zero_add, BitVec.getLsbD_eq_getElem hi]

@[simp] theorem op_encodeImm12 (op : BitVec 4) (imm12 : BitVec 12) : nibble (encodeImm12 op imm12) 12 = op.toFin :=
  nibble_eq _ _ _ fun i hi => by
    rw [getLsbD_encodeImm12, if_neg (by omega), Nat.add_sub_cancel_left]

@[simp] theorem imm12_encodeImm12 (op : BitVec 4) (imm12 : BitVec 12) : imm12Of (encodeImm12 op imm12) = imm12 := by
  unfold imm12Of
  ext i hi
  rw [BitVec.getElem_extractLsb', getLsbD_encodeImm12, if_pos (by omega), Nat.zero_add,
    BitVec.getLsbD_eq_getElem hi]

/-! ## The condition codes (R141) -/

/-- Every condition is the one its code names. -/
@[simp] theorem Cond.ofCode_code (c : Cond) : Cond.ofCode c.code.toFin = c := by
  cases c <;> rfl

/-- Every code is the code of the condition it names. -/
@[simp] theorem Cond.code_ofCode (k : Fin 16) : (Cond.ofCode k).code.toFin = k := by
  revert k
  decide

/-! ## A word from its own fields -/

/-- A word is the concatenation of its four fields (R51). -/
theorem encodeFields_nibbles (w : Word) :
    encodeFields (regBits (nibble w 12)) (regBits (nibble w 8)) (regBits (nibble w 4)) (regBits (nibble w 0)) = w := by
  apply BitVec.eq_of_getLsbD_eq
  intro i hi
  have bit : ∀ lo j, j < 4 → (regBits (nibble w lo)).getLsbD j = w.getLsbD (lo + j) := fun lo j hj => by
    rw [nibble, regBits_ofNibble, BitVec.getLsbD_extractLsb', decide_eq_true hj, Bool.true_and]
  rw [getLsbD_encodeFields]
  split_ifs with h1 h2 h3 <;> rw [bit _ _ (by omega)] <;> congr 1 <;> omega

end Sys2Proof
end

