-- ==== Sys2Proof/Laws/Params.lean ====
section
/-! SUPPORT. What each named parameter of R2 says of the machine: a parameter with another value breaks its lemma. -/

namespace Sys2Proof.Machine

/-- A word of main memory has `MEM_UNIT` bits (R30). -/
theorem word_eq_memUnit : Word = BitVec memUnit := rfl

/-- The program counter has `PC_WIDTH` bits (R14). -/
theorem word_eq_pcWidth : Word = BitVec pcWidth := rfl

/-- The addresses an instruction can compute are those of main memory, so each is implemented (R44). -/
theorem address_iff_lt_mainMemWords (n : Nat) : (∃ a : Word, a.toNat = n) ↔ n < mainMemWords :=
  ⟨fun ⟨a, h⟩ => h ▸ a.isLt, fun h => ⟨BitVec.ofNat 16 n, Nat.mod_eq_of_lt h⟩⟩

/-- The addresses an instruction can compute are those of the external space (R23). -/
theorem address_iff_lt_extWords (n : Nat) : (∃ a : Word, a.toNat = n) ↔ n < extWords :=
  ⟨fun ⟨a, h⟩ => h ▸ a.isLt, fun h => ⟨BitVec.ofNat 16 n, Nat.mod_eq_of_lt h⟩⟩

/-- What each writer of the flags does, the policy unfolded (R19). -/
@[simp] theorem Flags.withCF_additions (fl : Flags) (c f : Bool) :
    fl.withCF .additions c f = { fl with c := c, f := f } := rfl

@[simp] theorem Flags.withCF_subtractions (fl : Flags) (c f : Bool) :
    fl.withCF .subtractions c f = { fl with c := c, f := f } := rfl

@[simp] theorem Flags.compared_eq (fl : Flags) (a b : Word) :
    fl.compared a b = { fl with z := a == b, n := b.toInt < a.toInt, l := b.toNat < a.toNat } := rfl

@[simp] theorem Flags.loaded_eq (fl : Flags) (v : Word) : fl.loaded v = Flags.ofWord v := rfl

/-- A group without a flag to write leaves the flags alone (R19). -/
@[simp] theorem Flags.write_others (fl new : Flags) : fl.write .others new = fl := rfl

/-- The flags an instruction writes are those `FLAG_POLICY` gives its group (R19). -/
theorem mem_flagsWritten_iff_flagPolicy (i : Instr) (name : FlagName) :
    name ∈ flagsWritten i ↔ flagPolicy (flagGroup i) name = true := by
  cases i <;> cases name <;> simp [flagsWritten, flagGroup, flagPolicy]

end Sys2Proof.Machine
end

