-- ==== Sys2Proof/Laws/PerInstr.lean ====
section
/-! SUPPORT. Per-instruction laws, one lemma per constructor of `Instr`. The family `EncodesIntoRow`: the word of a
well-formed instruction lies in the instruction's row of the match and mask table (R73). -/

namespace Sys2Proof.Laws.EncodesIntoRow

/-- The word of a well-formed instruction lies in its row of R73. -/
def Statement (i : Instr) : Prop := i.wellFormed = true → i.row.holds (encode i) = true

/-! ## What a mask leaves of each format -/

theorem fields_masked (op a b c : BitVec 4) : encodeFields op a b c &&& 0xF0F0#16 = encodeFields op 0 b 0 := by
  apply BitVec.eq_of_getLsbD_eq
  intro i hi
  rw [BitVec.getLsbD_and, getLsbD_encodeFields, getLsbD_encodeFields]
  interval_cases i <;> simp

theorem fields_masked_cond (op a b c : BitVec 4) : encodeFields op a b c &&& 0xFFF0#16 = encodeFields op a b 0 := by
  apply BitVec.eq_of_getLsbD_eq
  intro i hi
  rw [BitVec.getLsbD_and, getLsbD_encodeFields, getLsbD_encodeFields]
  interval_cases i <;> simp

theorem imm8_masked (op a : BitVec 4) (imm8 : BitVec 8) : encodeImm8 op a imm8 &&& 0xF000#16 = encodeImm8 op 0 0 := by
  apply BitVec.eq_of_getLsbD_eq
  intro i hi
  rw [BitVec.getLsbD_and, getLsbD_encodeImm8, getLsbD_encodeImm8]
  interval_cases i <;> simp

theorem imm8_masked_cond (op a : BitVec 4) (imm8 : BitVec 8) :
    encodeImm8 op a imm8 &&& 0xFF00#16 = encodeImm8 op a 0 := by
  apply BitVec.eq_of_getLsbD_eq
  intro i hi
  rw [BitVec.getLsbD_and, getLsbD_encodeImm8, getLsbD_encodeImm8]
  interval_cases i <;> simp

theorem imm12_masked (op : BitVec 4) (imm12 : BitVec 12) :
    encodeImm12 op imm12 &&& 0xF000#16 = encodeImm12 op 0 := by
  apply BitVec.eq_of_getLsbD_eq
  intro i hi
  rw [BitVec.getLsbD_and, getLsbD_encodeImm12, getLsbD_encodeImm12]
  interval_cases i <;> simp

/-- A word lies in a row when what the mask leaves of it is the pattern. -/
theorem holds_of {r : EncRow} {w v : Word} (h : w &&& r.mask = v) (hv : (v == r.pattern) = true) :
    r.holds w = true := by
  unfold EncRow.holds
  rw [h]
  exact hv

/-! ## One lemma per instruction -/

theorem add (rd rs : Reg) : Statement (.add rd rs) := fun _ => holds_of (fields_masked _ _ _ _) rfl
theorem addc (rd rs : Reg) : Statement (.addc rd rs) := fun _ => holds_of (fields_masked _ _ _ _) rfl
theorem mul (rd rs : Reg) : Statement (.mul rd rs) := fun _ => holds_of (fields_masked _ _ _ _) rfl
theorem sub (rd rs : Reg) : Statement (.sub rd rs) := fun _ => holds_of (fields_masked _ _ _ _) rfl
theorem cmp (rd rs : Reg) : Statement (.cmp rd rs) := fun _ => holds_of (fields_masked _ _ _ _) rfl
theorem not (rd rs : Reg) : Statement (.not rd rs) := fun _ => holds_of (fields_masked _ _ _ _) rfl
theorem and (rd rs : Reg) : Statement (.and rd rs) := fun _ => holds_of (fields_masked _ _ _ _) rfl
theorem or (rd rs : Reg) : Statement (.or rd rs) := fun _ => holds_of (fields_masked _ _ _ _) rfl
theorem xor (rd rs : Reg) : Statement (.xor rd rs) := fun _ => holds_of (fields_masked _ _ _ _) rfl
theorem lsh (rd rs : Reg) : Statement (.lsh rd rs) := fun _ => holds_of (fields_masked _ _ _ _) rfl
theorem lshi (rd : Reg) (imm4 : BitVec 4) : Statement (.lshi rd imm4) := fun _ => holds_of (fields_masked _ _ _ _) rfl
theorem rsh (rd rs : Reg) : Statement (.rsh rd rs) := fun _ => holds_of (fields_masked _ _ _ _) rfl
theorem rshi (rd : Reg) (imm4 : BitVec 4) : Statement (.rshi rd imm4) := fun _ => holds_of (fields_masked _ _ _ _) rfl
theorem alsh (rd rs : Reg) : Statement (.alsh rd rs) := fun _ => holds_of (fields_masked _ _ _ _) rfl
theorem alshi (rd : Reg) (imm4 : BitVec 4) : Statement (.alshi rd imm4) := fun _ => holds_of (fields_masked _ _ _ _) rfl
theorem arsh (rd rs : Reg) : Statement (.arsh rd rs) := fun _ => holds_of (fields_masked _ _ _ _) rfl
theorem addi (rd : Reg) (imm8 : BitVec 8) : Statement (.addi rd imm8) := fun _ => holds_of (imm8_masked _ _ _) rfl
theorem addci (rd : Reg) (imm8 : BitVec 8) : Statement (.addci rd imm8) := fun _ => holds_of (imm8_masked _ _ _) rfl
theorem muli (rd : Reg) (imm8 : BitVec 8) : Statement (.muli rd imm8) := fun _ => holds_of (imm8_masked _ _ _) rfl
theorem subi (rd : Reg) (imm8 : BitVec 8) : Statement (.subi rd imm8) := fun _ => holds_of (imm8_masked _ _ _) rfl
theorem cmpi (rd : Reg) (imm8 : BitVec 8) : Statement (.cmpi rd imm8) := fun _ => holds_of (imm8_masked _ _ _) rfl
theorem noti (rd : Reg) (imm8 : BitVec 8) : Statement (.noti rd imm8) := fun _ => holds_of (imm8_masked _ _ _) rfl
theorem andi (rd : Reg) (imm8 : BitVec 8) : Statement (.andi rd imm8) := fun _ => holds_of (imm8_masked _ _ _) rfl
theorem ori (rd : Reg) (imm8 : BitVec 8) : Statement (.ori rd imm8) := fun _ => holds_of (imm8_masked _ _ _) rfl
theorem xori (rd : Reg) (imm8 : BitVec 8) : Statement (.xori rd imm8) := fun _ => holds_of (imm8_masked _ _ _) rfl
theorem movil (rd : Reg) (imm8 : BitVec 8) : Statement (.movil rd imm8) := fun _ => holds_of (imm8_masked _ _ _) rfl
theorem moviu (rd : Reg) (imm8 : BitVec 8) : Statement (.moviu rd imm8) := fun _ => holds_of (imm8_masked _ _ _) rfl
theorem beq (imm8 : BitVec 8) : Statement (.beq imm8) := fun _ => holds_of (imm8_masked_cond _ _ _) rfl
theorem bne (imm8 : BitVec 8) : Statement (.bne imm8) := fun _ => holds_of (imm8_masked_cond _ _ _) rfl
theorem bcs (imm8 : BitVec 8) : Statement (.bcs imm8) := fun _ => holds_of (imm8_masked_cond _ _ _) rfl
theorem bcc (imm8 : BitVec 8) : Statement (.bcc imm8) := fun _ => holds_of (imm8_masked_cond _ _ _) rfl
theorem bfs (imm8 : BitVec 8) : Statement (.bfs imm8) := fun _ => holds_of (imm8_masked_cond _ _ _) rfl
theorem bfc (imm8 : BitVec 8) : Statement (.bfc imm8) := fun _ => holds_of (imm8_masked_cond _ _ _) rfl
theorem blt (imm8 : BitVec 8) : Statement (.blt imm8) := fun _ => holds_of (imm8_masked_cond _ _ _) rfl
theorem ble (imm8 : BitVec 8) : Statement (.ble imm8) := fun _ => holds_of (imm8_masked_cond _ _ _) rfl
theorem blo (imm8 : BitVec 8) : Statement (.blo imm8) := fun _ => holds_of (imm8_masked_cond _ _ _) rfl
theorem bls (imm8 : BitVec 8) : Statement (.bls imm8) := fun _ => holds_of (imm8_masked_cond _ _ _) rfl
theorem bgt (imm8 : BitVec 8) : Statement (.bgt imm8) := fun _ => holds_of (imm8_masked_cond _ _ _) rfl
theorem bge (imm8 : BitVec 8) : Statement (.bge imm8) := fun _ => holds_of (imm8_masked_cond _ _ _) rfl
theorem bhi (imm8 : BitVec 8) : Statement (.bhi imm8) := fun _ => holds_of (imm8_masked_cond _ _ _) rfl
theorem bhs (imm8 : BitVec 8) : Statement (.bhs imm8) := fun _ => holds_of (imm8_masked_cond _ _ _) rfl
theorem buc (imm8 : BitVec 8) : Statement (.buc imm8) := fun _ => holds_of (imm8_masked_cond _ _ _) rfl
theorem bnever (imm8 : BitVec 8) : Statement (.bnever imm8) := fun _ => holds_of (imm8_masked_cond _ _ _) rfl
theorem calld (imm12 : BitVec 12) : Statement (.calld imm12) := fun _ => holds_of (imm12_masked _ _) rfl
theorem arshi (rd : Reg) (imm4 : BitVec 4) : Statement (.arshi rd imm4) := fun _ => holds_of (fields_masked _ _ _ _) rfl
theorem mov (rd rs : Reg) : Statement (.mov rd rs) := fun _ => holds_of (fields_masked _ _ _ _) rfl
theorem jeq (rs : Reg) : Statement (.jeq rs) := fun _ => holds_of (fields_masked_cond _ _ _ _) rfl
theorem jne (rs : Reg) : Statement (.jne rs) := fun _ => holds_of (fields_masked_cond _ _ _ _) rfl
theorem jcs (rs : Reg) : Statement (.jcs rs) := fun _ => holds_of (fields_masked_cond _ _ _ _) rfl
theorem jcc (rs : Reg) : Statement (.jcc rs) := fun _ => holds_of (fields_masked_cond _ _ _ _) rfl
theorem jfs (rs : Reg) : Statement (.jfs rs) := fun _ => holds_of (fields_masked_cond _ _ _ _) rfl
theorem jfc (rs : Reg) : Statement (.jfc rs) := fun _ => holds_of (fields_masked_cond _ _ _ _) rfl
theorem jlt (rs : Reg) : Statement (.jlt rs) := fun _ => holds_of (fields_masked_cond _ _ _ _) rfl
theorem jle (rs : Reg) : Statement (.jle rs) := fun _ => holds_of (fields_masked_cond _ _ _ _) rfl
theorem jlo (rs : Reg) : Statement (.jlo rs) := fun _ => holds_of (fields_masked_cond _ _ _ _) rfl
theorem jls (rs : Reg) : Statement (.jls rs) := fun _ => holds_of (fields_masked_cond _ _ _ _) rfl
theorem jgt (rs : Reg) : Statement (.jgt rs) := fun _ => holds_of (fields_masked_cond _ _ _ _) rfl
theorem jge (rs : Reg) : Statement (.jge rs) := fun _ => holds_of (fields_masked_cond _ _ _ _) rfl
theorem jhi (rs : Reg) : Statement (.jhi rs) := fun _ => holds_of (fields_masked_cond _ _ _ _) rfl
theorem jhs (rs : Reg) : Statement (.jhs rs) := fun _ => holds_of (fields_masked_cond _ _ _ _) rfl
theorem juc (rs : Reg) : Statement (.juc rs) := fun _ => holds_of (fields_masked_cond _ _ _ _) rfl
theorem jnever (rs : Reg) : Statement (.jnever rs) := fun _ => holds_of (fields_masked_cond _ _ _ _) rfl
theorem call (rs : Reg) : Statement (.call rs) := fun _ => holds_of (fields_masked _ _ _ _) rfl
theorem ret : Statement .ret := fun _ => holds_of (fields_masked _ _ _ _) rfl
theorem lpc (rd : Reg) : Statement (.lpc rd) := fun _ => holds_of (fields_masked _ _ _ _) rfl
theorem lsf (rd : Reg) : Statement (.lsf rd) := fun _ => holds_of (fields_masked _ _ _ _) rfl
theorem ssf (rs : Reg) : Statement (.ssf rs) := fun _ => holds_of (fields_masked _ _ _ _) rfl
theorem push (rs : Reg) : Statement (.push rs) := fun _ => holds_of (fields_masked _ _ _ _) rfl
theorem pop (rd : Reg) : Statement (.pop rd) := fun _ => holds_of (fields_masked _ _ _ _) rfl
theorem load (rd rs : Reg) : Statement (.load rd rs) := fun _ => holds_of (fields_masked _ _ _ _) rfl
theorem store (rd rs : Reg) : Statement (.store rd rs) := fun _ => holds_of (fields_masked _ _ _ _) rfl
theorem loadx (rd rs : Reg) : Statement (.loadx rd rs) := fun _ => holds_of (fields_masked _ _ _ _) rfl
theorem storex (rd rs : Reg) : Statement (.storex rd rs) := fun _ => holds_of (fields_masked _ _ _ _) rfl
theorem nop : Statement .nop := fun h => nomatch h
theorem reservedOp1110 (iw : Word) : Statement (.reservedOp1110 iw) := fun h => h
theorem reservedOp1111Ext111x (iw : Word) : Statement (.reservedOp1111Ext111x iw) := fun h => h

end Sys2Proof.Laws.EncodesIntoRow
end

