-- ==== Sys2Proof/Laws/Timing.lean ====
section
/-! SUPPORT. The recursion of the time of a run, by what its first step answers. -/

namespace Sys2Proof.Machine

@[simp] theorem runCycles_zero (s : State) : runCycles 0 s = some 0 := rfl

/-- A run whose first step goes on costs that step and the rest (R229). -/
theorem runCycles_succ_of_next {s t : State} (k : Nat) (h : step s = .next t) :
    runCycles (k + 1) s = (do return (← clockCycles (decode s.fetch) s.flags) + (← runCycles k t)) := by
  simp only [runCycles, h]

end Sys2Proof.Machine
end

