-- ==== Sys2Proof/Machine/Assembly.lean ====
section
/-! DEFINITION. The assembly text of an instruction (`30_encoding.md` R69 to R72, `10_state.md` R27). The level
modelled is the binary word (R4); this is the naming of those words. -/

namespace Sys2Proof

/-- The name of a register (R10, R27). -/
def regName (r : Reg) : String := if r = Reg.rsp then "rsp" else "r" ++ toString r.val

/-- `MNEM a, b` (R69). -/
def twoOperands (i : Instr) (a b : String) : String := i.mnemonic ++ " " ++ a ++ ", " ++ b

/-- `MNEM a` (R69). -/
def oneOperand (i : Instr) (a : String) : String := i.mnemonic ++ " " ++ a

/-- A statement of the instruction's form (R69), immediates in plain decimal, signed where the instruction
sign-extends them (R71). A reserved word has no statement; its name in the opcode table stands for it. -/
def disassemble (i : Instr) : String :=
  match i with
  | .add rd rs => twoOperands (.add rd rs) (regName rd) (regName rs)
  | .addc rd rs => twoOperands (.addc rd rs) (regName rd) (regName rs)
  | .mul rd rs => twoOperands (.mul rd rs) (regName rd) (regName rs)
  | .sub rd rs => twoOperands (.sub rd rs) (regName rd) (regName rs)
  | .cmp rd rs => twoOperands (.cmp rd rs) (regName rd) (regName rs)
  | .not rd rs => twoOperands (.not rd rs) (regName rd) (regName rs)
  | .and rd rs => twoOperands (.and rd rs) (regName rd) (regName rs)
  | .or rd rs => twoOperands (.or rd rs) (regName rd) (regName rs)
  | .xor rd rs => twoOperands (.xor rd rs) (regName rd) (regName rs)
  | .lsh rd rs => twoOperands (.lsh rd rs) (regName rd) (regName rs)
  | .lshi rd imm4 => twoOperands (.lshi rd imm4) (regName rd) (toString imm4.toNat)
  | .rsh rd rs => twoOperands (.rsh rd rs) (regName rd) (regName rs)
  | .rshi rd imm4 => twoOperands (.rshi rd imm4) (regName rd) (toString imm4.toNat)
  | .alsh rd rs => twoOperands (.alsh rd rs) (regName rd) (regName rs)
  | .alshi rd imm4 => twoOperands (.alshi rd imm4) (regName rd) (toString imm4.toNat)
  | .arsh rd rs => twoOperands (.arsh rd rs) (regName rd) (regName rs)
  | .addi rd imm8 => twoOperands (.addi rd imm8) (regName rd) (toString imm8.toInt)
  | .addci rd imm8 => twoOperands (.addci rd imm8) (regName rd) (toString imm8.toInt)
  | .muli rd imm8 => twoOperands (.muli rd imm8) (regName rd) (toString imm8.toInt)
  | .subi rd imm8 => twoOperands (.subi rd imm8) (regName rd) (toString imm8.toInt)
  | .cmpi rd imm8 => twoOperands (.cmpi rd imm8) (regName rd) (toString imm8.toInt)
  | .noti rd imm8 => twoOperands (.noti rd imm8) (regName rd) (toString imm8.toNat)
  | .andi rd imm8 => twoOperands (.andi rd imm8) (regName rd) (toString imm8.toNat)
  | .ori rd imm8 => twoOperands (.ori rd imm8) (regName rd) (toString imm8.toNat)
  | .xori rd imm8 => twoOperands (.xori rd imm8) (regName rd) (toString imm8.toNat)
  | .movil rd imm8 => twoOperands (.movil rd imm8) (regName rd) (toString imm8.toNat)
  | .moviu rd imm8 => twoOperands (.moviu rd imm8) (regName rd) (toString imm8.toNat)
  | .beq imm8 => oneOperand (.beq imm8) (toString imm8.toInt)
  | .bne imm8 => oneOperand (.bne imm8) (toString imm8.toInt)
  | .bcs imm8 => oneOperand (.bcs imm8) (toString imm8.toInt)
  | .bcc imm8 => oneOperand (.bcc imm8) (toString imm8.toInt)
  | .bfs imm8 => oneOperand (.bfs imm8) (toString imm8.toInt)
  | .bfc imm8 => oneOperand (.bfc imm8) (toString imm8.toInt)
  | .blt imm8 => oneOperand (.blt imm8) (toString imm8.toInt)
  | .ble imm8 => oneOperand (.ble imm8) (toString imm8.toInt)
  | .blo imm8 => oneOperand (.blo imm8) (toString imm8.toInt)
  | .bls imm8 => oneOperand (.bls imm8) (toString imm8.toInt)
  | .bgt imm8 => oneOperand (.bgt imm8) (toString imm8.toInt)
  | .bge imm8 => oneOperand (.bge imm8) (toString imm8.toInt)
  | .bhi imm8 => oneOperand (.bhi imm8) (toString imm8.toInt)
  | .bhs imm8 => oneOperand (.bhs imm8) (toString imm8.toInt)
  | .buc imm8 => oneOperand (.buc imm8) (toString imm8.toInt)
  | .bnever imm8 => oneOperand (.bnever imm8) (toString imm8.toInt)
  | .calld imm12 => oneOperand (.calld imm12) (toString imm12.toInt)
  | .arshi rd imm4 => twoOperands (.arshi rd imm4) (regName rd) (toString imm4.toNat)
  | .mov rd rs => twoOperands (.mov rd rs) (regName rd) (regName rs)
  | .jeq rs => oneOperand (.jeq rs) (regName rs)
  | .jne rs => oneOperand (.jne rs) (regName rs)
  | .jcs rs => oneOperand (.jcs rs) (regName rs)
  | .jcc rs => oneOperand (.jcc rs) (regName rs)
  | .jfs rs => oneOperand (.jfs rs) (regName rs)
  | .jfc rs => oneOperand (.jfc rs) (regName rs)
  | .jlt rs => oneOperand (.jlt rs) (regName rs)
  | .jle rs => oneOperand (.jle rs) (regName rs)
  | .jlo rs => oneOperand (.jlo rs) (regName rs)
  | .jls rs => oneOperand (.jls rs) (regName rs)
  | .jgt rs => oneOperand (.jgt rs) (regName rs)
  | .jge rs => oneOperand (.jge rs) (regName rs)
  | .jhi rs => oneOperand (.jhi rs) (regName rs)
  | .jhs rs => oneOperand (.jhs rs) (regName rs)
  | .juc rs => oneOperand (.juc rs) (regName rs)
  | .jnever rs => oneOperand (.jnever rs) (regName rs)
  | .call rs => oneOperand (.call rs) (regName rs)
  | .ret => (Instr.ret).mnemonic
  | .lpc rd => oneOperand (.lpc rd) (regName rd)
  | .lsf rd => oneOperand (.lsf rd) (regName rd)
  | .ssf rs => oneOperand (.ssf rs) (regName rs)
  | .push rs => oneOperand (.push rs) (regName rs)
  | .pop rd => oneOperand (.pop rd) (regName rd)
  | .load rd rs => twoOperands (.load rd rs) (regName rd) (regName rs)
  | .store rd rs => twoOperands (.store rd rs) (regName rd) (regName rs)
  | .loadx rd rs => twoOperands (.loadx rd rs) (regName rd) (regName rs)
  | .storex rd rs => twoOperands (.storex rd rs) (regName rd) (regName rs)
  | .nop => (Instr.nop).mnemonic
  | .reservedOp1110 iw => (Instr.reservedOp1110 iw).mnemonic
  | .reservedOp1111Ext111x iw => (Instr.reservedOp1111Ext111x iw).mnemonic

end Sys2Proof
end

