-- ==== Sys2Proof/Tests/Slice0.lean ====
section
/-! SUPPORT. Tests and witnesses. Every expected value is the spec's: words and vectors from `95_test_vectors.md`,
addresses and section numbers below are its. A witness shows a state and operands that meet the hypotheses of the
statement it is named after. -/

open Sys2Proof Sys2Proof.Machine

namespace Sys2Proof.Tests

/-! ## Helpers -/

/-- The flags from the five bits `NZFLC` the vectors are written in. -/
def flagsOf (v : BitVec 5) : Flags := ⟨v.getLsbD 0, v.getLsbD 1, v.getLsbD 2, v.getLsbD 3, v.getLsbD 4⟩

/-- Registers with some replaced. -/
def withRegs (x : Vector Word 16) (values : List (Reg × Word)) : Vector Word 16 :=
  values.foldl (fun x p => x.set p.1 p.2) x

/-- The state before a vector: one instruction word at `pc`, some registers, the flags, some other words. -/
def start (a w : Word) (values : List (Reg × Word)) (v : BitVec 5) (mem : Memory) : State :=
  { State.reset with regs := withRegs State.reset.regs values, pc := a, flags := flagsOf v, mem := mem }.writeMain a w

/-- A step goes on, to this `pc`, with these registers changed and no other, these flags, and these words in memory. -/
def stepsTo (s : State) (pc : Word) (values : List (Reg × Word)) (v : BitVec 5) (mem : List (Nat × Word)) : Bool :=
  match step s with
  | .next t => t.pc == pc && t.regs == withRegs s.regs values && t.flags == flagsOf v &&
      mem.all (fun c => Memory.read t.mem c.1 == some c.2)
  | .fault _ => false
  | .refused _ => false

/-- A step goes on to a state of which something holds. -/
def stepsWhere (s : State) (p : State → Bool) : Bool :=
  match step s with
  | .next t => p t
  | .fault _ => false
  | .refused _ => false

/-- A step stops with a fault. -/
def faultsWith (s : State) (reason : Fault) : Bool :=
  match step s with
  | .next _ => false
  | .fault r => r == reason
  | .refused _ => false

/-! ## WellFormed refuses ill-formed terms -/

/-- NOP has no word of its own (R190). -/
theorem test_wellFormed_refuses_nop : Instr.wellFormed .nop = false := by decide

/-- A reserved term of `op` 1110 holds such a word (R67). -/
theorem test_wellFormed_refuses_other_word_as_op1110 :
    Instr.wellFormed (.reservedOp1110 0xDFFF) = false ∧ Instr.wellFormed (.reservedOp1110 0xF000) = false ∧
    Instr.wellFormed (.reservedOp1110 0xE000) = true ∧ Instr.wellFormed (.reservedOp1110 0xEFFF) = true := by decide

/-- A reserved term of `op` 1111 holds a word with `ext` 1110 or 1111 (R67). -/
theorem test_wellFormed_refuses_other_word_as_ext111x :
    Instr.wellFormed (.reservedOp1111Ext111x 0xF0DF) = false ∧
    Instr.wellFormed (.reservedOp1111Ext111x 0xE0E0) = false ∧
    Instr.wellFormed (.reservedOp1111Ext111x 0xF0E0) = true ∧
    Instr.wellFormed (.reservedOp1111Ext111x 0xFFFF) = true := by decide

/-! ## Decoding -/

/-- Arithmetic and compare words, bit by bit (`95_test_vectors.md` 2.1). -/
theorem test_decode_arithmetic :
    decode 0b0000_0001_0000_0010#16 = .add 1 2 ∧
    decode 0b0001_0011_1111_1111#16 = .addi 3 0xFF#8 ∧
    decode 0b0000_0100_0001_0101#16 = .addc 4 5 ∧
    decode 0b0010_0110_0001_0000#16 = .addci 6 0x10#8 ∧
    decode 0b0000_0111_0010_1000#16 = .mul 7 8 ∧
    decode 0b0011_1001_1111_1110#16 = .muli 9 0xFE#8 ∧
    decode 0b0000_1010_0011_1011#16 = .sub 10 11 ∧
    decode 0b0100_1100_0000_0001#16 = .subi 12 0x1#8 ∧
    decode 0b0000_1101_0100_1110#16 = .cmp 13 14 ∧
    decode 0b0101_0000_1000_0000#16 = .cmpi 0 0x80#8 := by decide

/-- Logic words, bit by bit (`95_test_vectors.md` 2.1). -/
theorem test_decode_logic :
    decode 0b0000_0001_0101_0010#16 = .not 1 2 ∧
    decode 0b0110_0011_0000_1111#16 = .noti 3 0xF#8 ∧
    decode 0b0000_0100_0110_0101#16 = .and 4 5 ∧
    decode 0b0111_0110_1111_0000#16 = .andi 6 0xF0#8 ∧
    decode 0b0000_0000_0111_0000#16 = .or 0 0 ∧
    decode 0b1000_0111_1000_0001#16 = .ori 7 0x81#8 ∧
    decode 0b0000_1000_1000_1000#16 = .xor 8 8 ∧
    decode 0b1001_1001_1111_1111#16 = .xori 9 0xFF#8 := by decide

/-- Shift words, bit by bit (`95_test_vectors.md` 2.1). -/
theorem test_decode_shift :
    decode 0b0000_0001_1001_0010#16 = .lsh 1 2 ∧
    decode 0b0000_0001_1010_1111#16 = .lshi 1 0xF#4 ∧
    decode 0b0000_0011_1011_0100#16 = .rsh 3 4 ∧
    decode 0b0000_0011_1100_1000#16 = .rshi 3 0x8#4 ∧
    decode 0b0000_0101_1101_0110#16 = .alsh 5 6 ∧
    decode 0b0000_0101_1110_0001#16 = .alshi 5 0x1#4 ∧
    decode 0b0000_0111_1111_1000#16 = .arsh 7 8 ∧
    decode 0b1111_0111_0000_1111#16 = .arshi 7 0xF#4 := by decide

/-- Move words, bit by bit (`95_test_vectors.md` 2.1). -/
theorem test_decode_move :
    decode 0b1111_1010_0001_1011#16 = .mov 10 11 ∧
    decode 0b1010_1100_1010_1011#16 = .movil 12 0xAB#8 ∧
    decode 0b1011_1100_1100_1101#16 = .moviu 12 0xCD#8 ∧
    decode 0b1111_1111_0001_0000#16 = .mov Reg.rsp 0 := by decide

/-- Jump words, bit by bit (`95_test_vectors.md` 2.1). -/
theorem test_decode_jump :
    decode 0b1111_0000_0010_0011#16 = .jeq 3 ∧
    decode 0b1111_1110_0010_1110#16 = .juc 14 ∧
    decode 0b1111_1111_0010_0000#16 = .jnever 0 := by decide

/-- Branch words, bit by bit (`95_test_vectors.md` 2.1). -/
theorem test_decode_branch :
    decode 0b1100_0000_0000_0101#16 = .beq 0x5#8 ∧
    decode 0b1100_0001_1111_1100#16 = .bne 0xFC#8 ∧
    decode 0b1100_1110_1111_1111#16 = .buc 0xFF#8 ∧
    decode 0b1100_1111_0000_0000#16 = .bnever 0x0#8 ∧
    decode 0b1100_0110_0111_1111#16 = .blt 0x7F#8 ∧
    decode 0b1100_1011_1000_0000#16 = .bge 0x80#8 := by decide

/-- CALL, CALLD, RET and LPC words, bit by bit (`95_test_vectors.md` 2.1). -/
theorem test_decode_call :
    decode 0b1111_0000_0011_1001#16 = .call 9 ∧
    decode 0b1101_1000_0000_0000#16 = .calld 0x800#12 ∧
    decode 0b1101_0111_1111_1111#16 = .calld 0x7FF#12 ∧
    decode 0b1101_0000_0000_0101#16 = .calld 0x5#12 ∧
    decode 0b1111_0000_0100_0000#16 = .ret ∧
    decode 0b1111_0111_0101_0000#16 = .lpc 7 := by decide

/-- LSF and SSF words, bit by bit (`95_test_vectors.md` 2.1). -/
theorem test_decode_status :
    decode 0b1111_0101_0110_0000#16 = .lsf 5 ∧
    decode 0b1111_0000_0111_0110#16 = .ssf 6 := by decide

/-- Stack and memory words, bit by bit (`95_test_vectors.md` 2.1). -/
theorem test_decode_memory :
    decode 0b1111_0000_1000_1011#16 = .push 11 ∧
    decode 0b1111_1011_1001_0000#16 = .pop 11 ∧
    decode 0b1111_0011_1010_0010#16 = .load 3 2 ∧
    decode 0b1111_0010_1011_1010#16 = .store 2 10 ∧
    decode 0b1111_0010_1100_0001#16 = .loadx 2 1 ∧
    decode 0b1111_0001_1101_0010#16 = .storex 1 2 ∧
    decode 0b1111_0000_1000_1111#16 = .push Reg.rsp := by decide

/-- The word of NOP, bit by bit (`95_test_vectors.md` 2.1). -/
theorem test_decode_nop :
    decode 0b0000_0000_0111_0000#16 = .or 0 0 := by decide

/-- Every J variant on `r3` (2.1, second table). -/
theorem test_decode_all_jumps :
    decode 0b1111_0000_0010_0011#16 = .jeq 3 ∧
    decode 0b1111_0001_0010_0011#16 = .jne 3 ∧
    decode 0b1111_0010_0010_0011#16 = .jcs 3 ∧
    decode 0b1111_0011_0010_0011#16 = .jcc 3 ∧
    decode 0b1111_0100_0010_0011#16 = .jfs 3 ∧
    decode 0b1111_0101_0010_0011#16 = .jfc 3 ∧
    decode 0b1111_0110_0010_0011#16 = .jlt 3 ∧
    decode 0b1111_0111_0010_0011#16 = .jle 3 ∧
    decode 0b1111_1000_0010_0011#16 = .jlo 3 ∧
    decode 0b1111_1001_0010_0011#16 = .jls 3 ∧
    decode 0b1111_1010_0010_0011#16 = .jgt 3 ∧
    decode 0b1111_1011_0010_0011#16 = .jge 3 ∧
    decode 0b1111_1100_0010_0011#16 = .jhi 3 ∧
    decode 0b1111_1101_0010_0011#16 = .jhs 3 ∧
    decode 0b1111_1110_0010_0011#16 = .juc 3 ∧
    decode 0b1111_1111_0010_0011#16 = .jnever 3 := by decide

/-- Every B variant with displacement 2 (2.1, second table). -/
theorem test_decode_all_branches :
    decode 0b1100_0000_0000_0010#16 = .beq 0x02#8 ∧
    decode 0b1100_0001_0000_0010#16 = .bne 0x02#8 ∧
    decode 0b1100_0010_0000_0010#16 = .bcs 0x02#8 ∧
    decode 0b1100_0011_0000_0010#16 = .bcc 0x02#8 ∧
    decode 0b1100_0100_0000_0010#16 = .bfs 0x02#8 ∧
    decode 0b1100_0101_0000_0010#16 = .bfc 0x02#8 ∧
    decode 0b1100_0110_0000_0010#16 = .blt 0x02#8 ∧
    decode 0b1100_0111_0000_0010#16 = .ble 0x02#8 ∧
    decode 0b1100_1000_0000_0010#16 = .blo 0x02#8 ∧
    decode 0b1100_1001_0000_0010#16 = .bls 0x02#8 ∧
    decode 0b1100_1010_0000_0010#16 = .bgt 0x02#8 ∧
    decode 0b1100_1011_0000_0010#16 = .bge 0x02#8 ∧
    decode 0b1100_1100_0000_0010#16 = .bhi 0x02#8 ∧
    decode 0b1100_1101_0000_0010#16 = .bhs 0x02#8 ∧
    decode 0b1100_1110_0000_0010#16 = .buc 0x02#8 ∧
    decode 0b1100_1111_0000_0010#16 = .bnever 0x02#8 := by decide

/-- Don't-care bits are ignored (2.2, R66). -/
theorem test_decode_ignores_dont_care_bits :
    decode 0xFA4B = .ret ∧ decode 0xF75F = .lpc 7 ∧ decode 0xF563 = .lsf 5 ∧ decode 0xF976 = .ssf 6 ∧
    decode 0xF38B = .push 11 ∧ decode 0xFB97 = .pop 11 ∧ decode 0xF739 = .call 9 := by decide

/-- Reserved words, and their defined neighbours (2.2, R67). -/
theorem test_decode_reserved :
    decode 0xFFFF = .reservedOp1111Ext111x 0xFFFF ∧ decode 0xF0E0 = .reservedOp1111Ext111x 0xF0E0 ∧
    decode 0xF1E2 = .reservedOp1111Ext111x 0xF1E2 ∧ decode 0xE000 = .reservedOp1110 0xE000 ∧
    decode 0xE123 = .reservedOp1110 0xE123 ∧ decode 0xEFFF = .reservedOp1110 0xEFFF ∧
    decode 0xCF05 = .bnever 5 ∧ decode 0xFF23 = .jnever 3 ∧ decode 0x0000 = .add 0 0 := by decide

/-- Canonical words (2.1, 2.2). -/
theorem test_encode_canonical :
    encode .ret = 0xF040 ∧ encode (.lsf 5) = 0xF560 ∧ encode (.push Reg.rsp) = 0xF08F ∧ encode (.lpc 7) = 0xF750 ∧
    encode .nop = 0x0070 ∧ encode (.calld 0x800) = 0xD800 ∧ encode (.jnever 0) = 0xFF20 := by decide

/-- Immediates (2.2, second table). -/
theorem test_immediates :
    sextImm8 0x7F = 0x007F ∧ sextImm8 0x80 = 0xFF80 ∧ sextImm8 0xFC = 0xFFFC ∧ zextImm8 0x80 = 0x0080 ∧
    zextImm8 0xFF = 0x00FF ∧ sextImm12 0x7FF = 0x07FF ∧ sextImm12 0x800 = 0xF800 ∧ shiftAmount 0xF = 15 := by decide

/-- The table's words reach the decoder and the next step. -/
theorem test_table_word :
    decodeTableWord 16 0x0102 = some (.add 1 2) ∧ (State.reset.withFetchWord 16 0x0102).fetch = 0x0102 ∧
    decodeTableWord 17 0x0102 = none := by decide

/-! ## One step of each instruction (2.3 to 2.10) -/

-- `ADD r1, r2` at 0x0100
theorem test_add_carries_and_keeps_nzl : stepsTo (start 0x0100 0x0102 [(1, 0xFFFF), (2, 0x0001)] 0b11010 [])
    0x0101 [(1, 0x0000)] 0b11011 [] = true := by decide

-- `ADD r1, r2` at 0x0100
theorem test_add_overflows_and_carries : stepsTo (start 0x0100 0x0102 [(1, 0x8000), (2, 0x8000)] 0b00000 [])
    0x0101 [(1, 0x0000)] 0b00101 [] = true := by decide

-- `ADDI r3, -1` at 0x0100
theorem test_addi_sign_extends : stepsTo (start 0x0100 0x13FF [(3, 0x0005)] 0b00000 [])
    0x0101 [(3, 0x0004)] 0b00001 [] = true := by decide

-- `ADDI r3, -128` at 0x0100
theorem test_addi_of_minus_128 : stepsTo (start 0x0100 0x1380 [(3, 0x8000)] 0b00000 [])
    0x0101 [(3, 0x7F80)] 0b00101 [] = true := by decide

-- `ADDC r4, r5` at 0x0100
theorem test_addc_ignores_c : stepsTo (start 0x0100 0x0415 [(4, 0x0010), (5, 0x0020)] 0b00001 [])
    0x0101 [(4, 0x0031)] 0b00000 [] = true := by decide

-- `ADDC r4, r5` at 0x0100
theorem test_addc_of_two_negatives : stepsTo (start 0x0100 0x0415 [(4, 0x8000), (5, 0xFFFF)] 0b00000 [])
    0x0101 [] 0b00001 [] = true := by decide

-- `ADDCI r6, -1` at 0x0100
theorem test_addci_minus_one : stepsTo (start 0x0100 0x26FF [(6, 0x1234)] 0b00000 [])
    0x0101 [] 0b00001 [] = true := by decide

-- `ADDCI r6, 127` at 0x0100
theorem test_addci_overflows : stepsTo (start 0x0100 0x267F [(6, 0x7F80)] 0b00000 [])
    0x0101 [(6, 0x8000)] 0b00100 [] = true := by decide

-- `MUL r7, r8` at 0x0100
theorem test_mul_keeps_low_half : stepsTo (start 0x0100 0x0728 [(7, 0xFFFF), (8, 0xFFFF)] 0b00000 [])
    0x0101 [(7, 0x0001)] 0b00000 [] = true := by decide

-- `MUL r7, r8` at 0x0100
theorem test_mul_writes_no_flag : stepsTo (start 0x0100 0x0728 [(7, 0x0007), (8, 0x0006)] 0b11111 [])
    0x0101 [(7, 0x002A)] 0b11111 [] = true := by decide

-- `MULI r9, -2` at 0x0100
theorem test_muli_by_minus_two : stepsTo (start 0x0100 0x39FE [(9, 0x0003)] 0b00000 [])
    0x0101 [(9, 0xFFFA)] 0b00000 [] = true := by decide

-- `MULI r9, 127` at 0x0100
theorem test_muli_wraps : stepsTo (start 0x0100 0x397F [(9, 0x0204)] 0b00000 [])
    0x0101 [(9, 0xFFFC)] 0b00000 [] = true := by decide

-- `SUB r10, r11` at 0x0100
theorem test_sub_borrows : stepsTo (start 0x0100 0x0A3B [(10, 0x0000), (11, 0x0001)] 0b11010 [])
    0x0101 [(10, 0xFFFF)] 0b11011 [] = true := by decide

-- `SUB r10, r11` at 0x0100
theorem test_sub_overflows_and_borrows : stepsTo (start 0x0100 0x0A3B [(10, 0x7FFF), (11, 0xFFFF)] 0b00000 [])
    0x0101 [(10, 0x8000)] 0b00101 [] = true := by decide

-- `SUBI r12, -1` at 0x0100
theorem test_subi_minus_one_borrows : stepsTo (start 0x0100 0x4CFF [(12, 0x0005)] 0b00000 [])
    0x0101 [(12, 0x0006)] 0b00001 [] = true := by decide

-- `SUBI r12, -128` at 0x0100
theorem test_subi_of_minus_128 : stepsTo (start 0x0100 0x4C80 [(12, 0x0000)] 0b00000 [])
    0x0101 [(12, 0x0080)] 0b00001 [] = true := by decide

-- `CMP r13, r14` at 0x0100
theorem test_cmp_minus_one_with_one : stepsTo (start 0x0100 0x0D4E [(13, 0xFFFF), (14, 0x0001)] 0b00000 [])
    0x0101 [] 0b00010 [] = true := by decide

-- `CMP r13, r14` at 0x0100
theorem test_cmp_equal_keeps_c_and_f : stepsTo (start 0x0100 0x0D4E [(13, 0x0005), (14, 0x0005)] 0b10111 [])
    0x0101 [] 0b01101 [] = true := by decide

-- `CMPI r0, -128` at 0x0100
theorem test_cmpi_with_minus_128 : stepsTo (start 0x0100 0x5080 [(0, 0x0000)] 0b00000 [])
    0x0101 [] 0b10000 [] = true := by decide

-- `CMPI r0, 127` at 0x0100
theorem test_cmpi_keeps_c_and_f : stepsTo (start 0x0100 0x507F [(0, 0x0080)] 0b00101 [])
    0x0101 [] 0b10111 [] = true := by decide

-- `NOT r1, r2` at 0x0100
theorem test_not_complements : stepsTo (start 0x0100 0x0152 [(1, 0x1111), (2, 0x00FF)] 0b10101 [])
    0x0101 [(1, 0xFF00)] 0b10101 [] = true := by decide

-- `NOT r1, r1` at 0x0100
theorem test_not_of_itself : stepsTo (start 0x0100 0x0151 [(1, 0xA5A5)] 0b00000 [])
    0x0101 [(1, 0x5A5A)] 0b00000 [] = true := by decide

-- `NOTI r3, 0x0F` at 0x0100
theorem test_noti_zero_extends : stepsTo (start 0x0100 0x630F [(3, 0x1111)] 0b10101 [])
    0x0101 [(3, 0xFFF0)] 0b10101 [] = true := by decide

-- `NOTI rsp, 0` at 0x0100
theorem test_noti_into_rsp : stepsTo (start 0x0100 0x6F00 [(Reg.rsp, 0x1234)] 0b00000 [])
    0x0101 [(Reg.rsp, 0xFFFF)] 0b00000 [] = true := by decide

-- `AND r4, r5` at 0x0100
theorem test_and_words : stepsTo (start 0x0100 0x0465 [(4, 0xF0F0), (5, 0x3C3C)] 0b10101 [])
    0x0101 [(4, 0x3030)] 0b10101 [] = true := by decide

-- `ANDI r6, 0xF0` at 0x0100
theorem test_andi_clears_high_byte : stepsTo (start 0x0100 0x76F0 [(6, 0xABCD)] 0b01010 [])
    0x0101 [(6, 0x00C0)] 0b01010 [] = true := by decide

-- `OR r4, r5` at 0x0100
theorem test_or_words : stepsTo (start 0x0100 0x0475 [(4, 0x00F0), (5, 0x0F00)] 0b00000 [])
    0x0101 [(4, 0x0FF0)] 0b00000 [] = true := by decide

-- `OR r0, r0` at 0x0100
theorem test_or_of_itself_is_nop : stepsTo (start 0x0100 0x0070 [(0, 0x1234)] 0b11111 [])
    0x0101 [] 0b11111 [] = true := by decide

-- `ORI r7, 0x81` at 0x0100
theorem test_ori_keeps_high_byte : stepsTo (start 0x0100 0x8781 [(7, 0x1200)] 0b10101 [])
    0x0101 [(7, 0x1281)] 0b10101 [] = true := by decide

-- `XOR r8, r8` at 0x0100
theorem test_xor_of_itself : stepsTo (start 0x0100 0x0888 [(8, 0xDEAD)] 0b01010 [])
    0x0101 [(8, 0x0000)] 0b01010 [] = true := by decide

-- `XOR r8, r9` at 0x0100
theorem test_xor_words : stepsTo (start 0x0100 0x0889 [(8, 0xAAAA), (9, 0xFFFF)] 0b00000 [])
    0x0101 [(8, 0x5555)] 0b00000 [] = true := by decide

-- `XORI r9, 0xFF` at 0x0100
theorem test_xori_keeps_high_byte : stepsTo (start 0x0100 0x99FF [(9, 0x1234)] 0b10101 [])
    0x0101 [(9, 0x12CB)] 0b10101 [] = true := by decide

-- `LSH r1, r2` at 0x0100
theorem test_lsh_drops_bit_15 : stepsTo (start 0x0100 0x0192 [(1, 0x8001), (2, 0x0001)] 0b00000 [])
    0x0101 [(1, 0x0002)] 0b00000 [] = true := by decide

-- `LSH r1, r1` at 0x0100
theorem test_lsh_by_itself : stepsTo (start 0x0100 0x0191 [(1, 0x0003)] 0b00000 [])
    0x0101 [(1, 0x0018)] 0b00000 [] = true := by decide

-- `LSHI r1, 15` at 0x0100
theorem test_lshi_by_15 : stepsTo (start 0x0100 0x01AF [(1, 0x0001)] 0b01010 [])
    0x0101 [(1, 0x8000)] 0b01010 [] = true := by decide

-- `RSH r3, r4` at 0x0100
theorem test_rsh_fills_with_zero : stepsTo (start 0x0100 0x03B4 [(3, 0xF000), (4, 0x0004)] 0b00000 [])
    0x0101 [(3, 0x0F00)] 0b00000 [] = true := by decide

-- `RSH r3, r4` at 0x0100
theorem test_rsh_by_15 : stepsTo (start 0x0100 0x03B4 [(3, 0x8000), (4, 0x000F)] 0b00000 [])
    0x0101 [(3, 0x0001)] 0b00000 [] = true := by decide

-- `RSHI r3, 8` at 0x0100
theorem test_rshi_by_8 : stepsTo (start 0x0100 0x03C8 [(3, 0xABCD)] 0b10101 [])
    0x0101 [(3, 0x00AB)] 0b10101 [] = true := by decide

-- `ALSH r5, r6` at 0x0100
theorem test_alsh_keeps_no_sign : stepsTo (start 0x0100 0x05D6 [(5, 0xC001), (6, 0x0001)] 0b00000 [])
    0x0101 [(5, 0x8002)] 0b00000 [] = true := by decide

-- `ALSHI r5, 1` at 0x0100
theorem test_alshi_changes_sign : stepsTo (start 0x0100 0x05E1 [(5, 0x4000)] 0b00000 [])
    0x0101 [(5, 0x8000)] 0b00000 [] = true := by decide

-- `ARSH r7, r8` at 0x0100
theorem test_arsh_fills_with_sign : stepsTo (start 0x0100 0x07F8 [(7, 0x8000), (8, 0x000F)] 0b10101 [])
    0x0101 [(7, 0xFFFF)] 0b10101 [] = true := by decide

-- `ARSH r7, r8` at 0x0100
theorem test_arsh_of_positive : stepsTo (start 0x0100 0x07F8 [(7, 0x7FFF), (8, 0x000F)] 0b00000 [])
    0x0101 [(7, 0x0000)] 0b00000 [] = true := by decide

-- `ARSHI r7, 1` at 0x0100
theorem test_arshi_rounds_down : stepsTo (start 0x0100 0xF701 [(7, 0xFFFD)] 0b00000 [])
    0x0101 [(7, 0xFFFE)] 0b00000 [] = true := by decide

-- `ARSHI r7, 15` at 0x0100
theorem test_arshi_by_15 : stepsTo (start 0x0100 0xF70F [(7, 0x8000)] 0b00000 [])
    0x0101 [(7, 0xFFFF)] 0b00000 [] = true := by decide

-- `MOV r10, r11` at 0x0100
theorem test_mov_copies : stepsTo (start 0x0100 0xFA1B [(10, 0x1111), (11, 0xBEEF)] 0b10101 [])
    0x0101 [(10, 0xBEEF)] 0b10101 [] = true := by decide

-- `MOV rsp, r0` at 0x0100
theorem test_mov_to_rsp : stepsTo (start 0x0100 0xFF10 [(Reg.rsp, 0xFFFF), (0, 0x8000)] 0b00000 [])
    0x0101 [(Reg.rsp, 0x8000)] 0b00000 [] = true := by decide

-- `MOVIL r12, 0xAB` at 0x0100
theorem test_movil_keeps_high_byte : stepsTo (start 0x0100 0xACAB [(12, 0x1234)] 0b01010 [])
    0x0101 [(12, 0x12AB)] 0b01010 [] = true := by decide

-- `MOVIU r12, 0xCD` at 0x0100
theorem test_moviu_keeps_low_byte : stepsTo (start 0x0100 0xBCCD [(12, 0x1234)] 0b10101 [])
    0x0101 [(12, 0xCD34)] 0b10101 [] = true := by decide

-- `BUC -2` at 0x0000
theorem test_buc_below_zero_wraps : stepsTo (start 0x0000 0xCEFE [] 0b00000 [])
    0xFFFF [] 0b00000 [] = true := by decide

-- `BUC -1` at 0x0100
theorem test_buc_to_itself : stepsTo (start 0x0100 0xCEFF [] 0b00000 [])
    0x0100 [] 0b00000 [] = true := by decide

-- `BLT 127` at 0x0100
theorem test_blt_plus_127 : stepsTo (start 0x0100 0xC67F [] 0b00000 [])
    0x0180 [] 0b00000 [] = true := by decide

-- `BGE -128` at 0x0100
theorem test_bge_minus_128 : stepsTo (start 0x0100 0xCB80 [] 0b10000 [])
    0x0081 [] 0b10000 [] = true := by decide

-- `CALL r9` at 0x0100
theorem test_call_pushes_return_address : stepsTo (start 0x0100 0xF039 [(9, 0x0300), (Reg.rsp, 0xFFFF)] 0b10101 [])
    0x0300 [(Reg.rsp, 0xFFFE)] 0b10101 [(0xFFFF, 0x0101)] = true := by decide

-- `CALL rsp` at 0x0100
theorem test_call_rsp_uses_old_value : stepsTo (start 0x0100 0xF03F [(Reg.rsp, 0x8000)] 0b00000 [])
    0x8000 [(Reg.rsp, 0x7FFF)] 0b00000 [(0x8000, 0x0101)] = true := by decide

-- `CALLD -2048` at 0x0900
theorem test_calld_minus_2048 : stepsTo (start 0x0900 0xD800 [(Reg.rsp, 0xFFF0)] 0b00000 [])
    0x0101 [(Reg.rsp, 0xFFEF)] 0b00000 [(0xFFF0, 0x0901)] = true := by decide

-- `CALLD -1` at 0x0100
theorem test_calld_wraps_rsp : stepsTo (start 0x0100 0xDFFF [(Reg.rsp, 0x0000)] 0b00000 [])
    0x0100 [(Reg.rsp, 0xFFFF)] 0b00000 [(0x0000, 0x0101)] = true := by decide

-- `RET` at 0x0100
theorem test_ret_pops : stepsTo (start 0x0100 0xF040 [(Reg.rsp, 0xFFFE)] 0b10101 [(0xFFFF, 0x0003)])
    0x0003 [(Reg.rsp, 0xFFFF)] 0b10101 [] = true := by decide

-- `RET` at 0x0100
theorem test_ret_wraps_rsp : stepsTo (start 0x0100 0xF040 [(Reg.rsp, 0xFFFF)] 0b00000 [(0x0000, 0x0042)])
    0x0042 [(Reg.rsp, 0x0000)] 0b00000 [] = true := by decide

-- `LPC r7` at 0x0100
theorem test_lpc_is_next_address : stepsTo (start 0x0100 0xF750 [(7, 0x0000)] 0b10101 [])
    0x0101 [(7, 0x0101)] 0b10101 [] = true := by decide

-- `LPC r7` at 0xFFFF
theorem test_lpc_wraps : stepsTo (start 0xFFFF 0xF750 [(7, 0x1234)] 0b00000 [])
    0x0000 [(7, 0x0000)] 0b00000 [] = true := by decide

-- `LSF r5` at 0x0100
theorem test_lsf_reads_n_and_l : stepsTo (start 0x0100 0xF560 [(5, 0x0000)] 0b10010 [])
    0x0101 [(5, 0x0012)] 0b10010 [] = true := by decide

-- `LSF r5` at 0x0100
theorem test_lsf_reads_z : stepsTo (start 0x0100 0xF560 [(5, 0x0000)] 0b01000 [])
    0x0101 [(5, 0x0008)] 0b01000 [] = true := by decide

-- `SSF r6` at 0x0100
theorem test_ssf_takes_low_five_bits : stepsTo (start 0x0100 0xF076 [(6, 0xABCD)] 0b00000 [])
    0x0101 [] 0b01101 [] = true := by decide

-- `SSF r6` at 0x0100
theorem test_ssf_ignores_high_bits : stepsTo (start 0x0100 0xF076 [(6, 0xFFE0)] 0b11111 [])
    0x0101 [] 0b00000 [] = true := by decide

-- `PUSH r11` at 0x0100
theorem test_push_then_decrements : stepsTo (start 0x0100 0xF08B [(11, 0x0015), (Reg.rsp, 0xFFFF)] 0b10101 [])
    0x0101 [(Reg.rsp, 0xFFFE)] 0b10101 [(0xFFFF, 0x0015)] = true := by decide

-- `PUSH rsp` at 0x0100
theorem test_push_rsp_stores_old_value : stepsTo (start 0x0100 0xF08F [(Reg.rsp, 0xFFFF)] 0b00000 [])
    0x0101 [(Reg.rsp, 0xFFFE)] 0b00000 [(0xFFFF, 0xFFFF)] = true := by decide

-- `POP r11` at 0x0100
theorem test_pop_increments_then_loads : stepsTo (start 0x0100 0xFB90 [(11, 0x0000), (Reg.rsp, 0xFFFE)] 0b10101 [(0xFFFF, 0x0015)])
    0x0101 [(11, 0x0015), (Reg.rsp, 0xFFFF)] 0b10101 [] = true := by decide

-- `POP rsp` at 0x0100
theorem test_pop_rsp_ends_with_word : stepsTo (start 0x0100 0xFF90 [(Reg.rsp, 0x8000)] 0b00000 [(0x8001, 0x1234)])
    0x0101 [(Reg.rsp, 0x1234)] 0b00000 [] = true := by decide

-- `LOAD r3, r3` at 0x0100
theorem test_load_into_its_address_register : stepsTo (start 0x0100 0xF3A3 [(3, 0x0200)] 0b00000 [(0x0200, 0x002A)])
    0x0101 [(3, 0x002A)] 0b00000 [] = true := by decide

-- `LOAD r3, r2` at 0x0100
theorem test_load_its_own_word : stepsTo (start 0x0100 0xF3A2 [(3, 0x0000), (2, 0x0100)] 0b00000 [])
    0x0101 [(3, 0xF3A2)] 0b00000 [] = true := by decide

-- `STORE r2, r10` at 0x0100
theorem test_store_one_word : stepsTo (start 0x0100 0xF2BA [(2, 0x0200), (10, 0x002A)] 0b10101 [])
    0x0101 [] 0b10101 [(0x0200, 0x002A)] = true := by decide

-- `STORE r2, r10` at 0x0100
theorem test_store_at_top : stepsTo (start 0x0100 0xF2BA [(2, 0xFFFF), (10, 0x1111)] 0b00000 [])
    0x0101 [] 0b00000 [(0xFFFF, 0x1111)] = true := by decide

/-- What each condition answers, in the order of Table 2, packed with EQ in the highest bit. -/
def conditionsOn (v : BitVec 5) : List Bool :=
  [.eq, .ne, .cs, .cc, .fs, .fc, .lt, .le, .lo, .ls, .gt, .ge, .hi, .hs, .uc, .never].map
    (fun c => condHolds c (flagsOf v))

/-- Sixteen bits as a list, the highest first. -/
def bitsOf (w : Word) : List Bool := (List.range 16).map (fun k => w.getLsbD (15 - k))

/-- The two tables of 2.7. -/
theorem test_conditions :
    conditionsOn 0b10010 = bitsOf 0b0101010000111110 ∧ conditionsOn 0b00000 = bitsOf 0b0101011111000010 ∧
    conditionsOn 0b01000 = bitsOf 0b1001010101010110 ∧ conditionsOn 0b00010 = bitsOf 0b0101011100001110 ∧
    conditionsOn 0b10000 = bitsOf 0b0101010011110010 ∧ conditionsOn 0b11111 = bitsOf 0b1010100000111110 ∧
    conditionsOn 0b11010 = bitsOf 0b1001010000111110 ∧ conditionsOn 0b00101 = bitsOf 0b0110101111000010 ∧
    conditionsOn 0b01100 = bitsOf 0b1001100101010110 ∧ conditionsOn 0b10001 = bitsOf 0b0110010011110010 := by decide

/-- The `pc` after each B variant with displacement 2 at 0x0100 on some flags, as taken or not. -/
def branchesTaken (v : BitVec 5) : List Bool :=
  (List.range 16).map fun k => stepsTo (start 0x0100 (BitVec.ofNat 16 (0xC002 + 256 * k)) [] v []) 0x0103 [] v []

/-- The same for each J variant to 0x0200. -/
def jumpsTaken (v : BitVec 5) : List Bool :=
  (List.range 16).map fun k =>
    stepsTo (start 0x0100 (BitVec.ofNat 16 (0xF023 + 256 * k)) [(3, 0x0200)] v []) 0x0200 [] v []

-- every B variant, after the compare of (0xFFFF, 0x0001) (2.1, 2.7)
theorem test_branches_taken : branchesTaken 0b00010 = bitsOf 0b0101011100001110 := by decide

-- every J variant, after the compare of (0x0001, 0xFFFF) (2.1, 2.7)
theorem test_jumps_taken : jumpsTaken 0b10000 = bitsOf 0b0101010011110010 := by decide

-- `BNEVER 5`, `BEQ 5` not taken, `JNEVER r0` and `JEQ r3` not taken (2.8)
theorem test_not_taken_goes_on :
    stepsTo (start 0x0100 0xCF05 [] 0b11111 []) 0x0101 [] 0b11111 [] = true ∧
    stepsTo (start 0x0100 0xC005 [] 0b00000 []) 0x0101 [] 0b00000 [] = true ∧
    stepsTo (start 0x0100 0xFF20 [(0, 0x0200)] 0b11111 []) 0x0101 [] 0b11111 [] = true ∧
    stepsTo (start 0x0100 0xF023 [(3, 0x0200)] 0b00000 []) 0x0101 [] 0b00000 [] = true := by decide

-- a register shift by 16 and by 0xFFFF goes on and draws a value (2.5)
theorem test_shift_out_of_range_goes_on :
    stepsWhere (start 0x0100 0x0192 [(1, 1), (2, 0x0010)] 0b00000 [])
      (fun t => t.pc == 0x0101 && t.draws == 1 && t.flags == flagsOf 0) = true ∧
    stepsWhere (start 0x0100 0x0192 [(1, 1), (2, 0xFFFF)] 0b00000 []) (fun t => t.pc == 0x0101) = true := by decide

-- `LOADX r2, r1` (2.10): one access is recorded, main memory and the other registers stay
theorem test_loadx_reads_outside :
    stepsWhere (start 0x0100 0xF2C1 [(1, 0x0010)] 0b10101 [])
      (fun t => t.pc == 0x0101 && t.ext.length == 1 && t.mem == [(0x0100, 0xF2C1)] && t.readReg 1 == 0x0010) =
      true := by decide

-- `STOREX r1, r2` (2.10)
theorem test_storex_writes_outside :
    stepsWhere (start 0x0100 0xF1D2 [(1, 0x0011), (2, 0x369C)] 0b10101 [])
      (fun t => t.ext == [.write 0x0011 0x369C] && t.mem == [(0x0100, 0xF1D2)]) = true := by decide

-- `STORE r2, r10` into the next word, which then runs (2.10, last paragraph)
theorem test_store_into_the_next_word :
    stepsWhere (start 0x0100 0xF2BA [(2, 0x0101), (10, 0xCEFF)] 0b00000 [])
      (fun t => decode t.fetch == .buc 0xFF) = true := by decide

-- reserved words (2.2, R206)
theorem test_reserved_words_fault :
    faultsWith (start 0x0100 0xE123 [] 0b00000 []) (.illegalInstruction 0x0100 0xE123) = true ∧
    faultsWith (start 0x0100 0xFFFF [] 0b00000 []) (.illegalInstruction 0x0100 0xFFFF) = true := by decide

/-! ## Memory -/

-- a word written is read back, its neighbours are not touched, and the addresses stay rising
theorem test_memory_write :
    Memory.write [(1, 0xAAAA), (5, 0xBBBB)] 3 0xCCCC = [(1, 0xAAAA), (3, 0xCCCC), (5, 0xBBBB)] ∧
    Memory.write [(1, 0xAAAA), (5, 0xBBBB)] 5 0xCCCC = [(1, 0xAAAA), (5, 0xCCCC)] ∧
    Memory.read [(1, 0xAAAA), (5, 0xBBBB)] 5 = some 0xBBBB ∧ Memory.read [(1, 0xAAAA)] 2 = none := by decide

/-! ## Clock cycles (Table 1) -/

-- R228: taken and not taken, and the instructions that touch memory
theorem test_clock_cycles :
    clockCycles (.beq 5) (flagsOf 0b01000) = some 4 ∧ clockCycles (.beq 5) (flagsOf 0) = some 3 ∧
    clockCycles (.jeq 3) (flagsOf 0b01000) = some 5 ∧ clockCycles (.jeq 3) (flagsOf 0) = some 3 ∧
    clockCycles (.call 9) (flagsOf 0) = some 5 ∧ clockCycles .ret (flagsOf 0) = some 6 := by decide

/-! ## Witnesses for the hypotheses of the statements -/

/-- A compare at 0x0100 with a few registers set. -/
def ready : State :=
  start 0x0100 0x0D4E [(2, 16), (3, 15), (9, 0x0300), (11, 0x0015), (13, 5), (14, 3)] 0b01000 []

theorem witness_DecodeOfEncode :
    Instr.wellFormed (.addi 3 0xFF) = true ∧ Instr.wellFormed (.reservedOp1110 0xEFFF) = true := by decide

theorem witness_MatchAndMaskSelect :
    Instr.wellFormed (.pop 11) = true ∧ (Instr.pop 11).row.holds 0xFB97 = true ∧
    Instr.row (.pop 11) = (decode 0xFB97).row := by decide

theorem witness_DontCareFieldsIgnored :
    0xFF3F#16 &&& 0xF0F0#16 = 0xF030#16 ∧ 0xFF4F#16 &&& 0xF0F0#16 = 0xF040#16 ∧
    0xFF5F#16 &&& 0xF0F0#16 = 0xF050#16 ∧ 0xFF6F#16 &&& 0xF0F0#16 = 0xF060#16 ∧
    0xFF7F#16 &&& 0xF0F0#16 = 0xF070#16 ∧ 0xFF8F#16 &&& 0xF0F0#16 = 0xF080#16 ∧
    0xFF9F#16 &&& 0xF0F0#16 = 0xF090#16 := by decide

theorem witness_StepRunsDecodedInstruction :
    decode ready.fetch = .cmp 13 14 ∧ Instr.wellFormed (.cmp 13 14) = true := by decide

theorem witness_StepRunsStoredEncoding :
    Instr.wellFormed (.cmp 13 14) = true ∧ Memory.read ready.mem ready.pc.toNat = some (encode (.cmp 13 14)) := by decide

-- words on both sides of each end of the reserved ranges
theorem witness_OnlyReservedWordsStop :
    reservedWord (start 0x0100 0xDFFF [] 0 []).fetch = false ∧ reservedWord (start 0x0100 0xE000 [] 0 []).fetch = true ∧
    reservedWord (start 0x0100 0xEFFF [] 0 []).fetch = true ∧ reservedWord (start 0x0100 0xF000 [] 0 []).fetch = false ∧
    reservedWord (start 0x0100 0xF0DF [] 0 []).fetch = false ∧ reservedWord (start 0x0100 0xF0E0 [] 0 []).fetch = true ∧
    reservedWord (start 0x0100 0xFFFF [] 0 []).fetch = true := by decide

theorem witness_StepKeepsMemoryCanonical :
    (start 0x0100 0xF2BA [(2, 0xFFFF)] 0 []).mem.wf ∧ ∃ t, step (start 0x0100 0xF2BA [(2, 0xFFFF)] 0 []) = .next t :=
  ⟨by decide, _, rfl⟩

theorem witness_OtherRegistersUnchanged :
    (∃ t, exec (.pop 11) ready = .next t) ∧ (3 : Reg) ∉ regsWritten (.pop 11) := ⟨⟨_, rfl⟩, by decide⟩

theorem witness_OtherFlagsUnchanged :
    (∃ t, exec (.cmp 13 14) ready = .next t) ∧ FlagName.c ∉ flagsWritten (.cmp 13 14) := ⟨⟨_, rfl⟩, by decide⟩

theorem witness_OtherWordsUnchanged :
    (∃ t, exec (.push 11) ready = .next t) ∧ storeAddr (.push 11) ready ≠ some 0xFFFE ∧
    (∃ t, exec (.load 1 9) ready = .next t) ∧ storeAddr (.load 1 9) ready ≠ some 0x0300 :=
  ⟨⟨_, rfl⟩, by decide, ⟨_, rfl⟩, by decide⟩

theorem witness_ExternalAccessesAndDraws :
    (∃ t, exec (.lsh 3 2) ready = .next t) ∧ isExternal (.lsh 3 2) = false ∧
    (∃ t, exec (.loadx 3 2) ready = .next t) ∧ isExternal (.loadx 3 2) = true ∧ isRegShift (.loadx 3 2) = false :=
  ⟨⟨_, rfl⟩, by decide, ⟨_, rfl⟩, by decide, by decide⟩

theorem witness_SequentialAdvance :
    isTransfer (.pop 3) = false ∧ (∃ t, exec (.pop 3) ready = .next t) ∧ condHolds .ne ready.flags = false :=
  ⟨by decide, ⟨_, rfl⟩, by decide⟩

theorem witness_CompareMeansItsConditions :
    (∃ t, exec (.cmp 13 14) ready = .next t) ∧ ∃ t, exec (.cmpi 13 0x80) ready = .next t := ⟨⟨_, rfl⟩, _, rfl⟩

-- amounts at the two sides of the range
theorem witness_RegisterShifts : (ready.readReg 3).toNat ≤ 15 ∧ 15 < (ready.readReg 2).toNat := by decide

theorem witness_ArithmeticLeftIsLogicalLeft : (ready.readReg 3).toNat ≤ 15 := by decide

theorem witness_ShiftByZeroKeepsTheValue : ready.readReg 0 = 0 := by decide

theorem witness_ConditionTable :
    0xCFFF#16 &&& 0xF000#16 = 0xC000#16 ∧ 0xFF2F#16 &&& 0xF0F0#16 = 0xF020#16 := by decide

-- both ends of the range
theorem witness_DisplacementReachesTarget :
    condHolds .eq ready.flags = true ∧ (0x0081#16 - ready.pc - 1).toInt = -128 ∧
    (0x0180#16 - ready.pc - 1).toInt = 127 := by decide

theorem witness_ComplementaryConditions :
    (Cond.uc, Cond.never) ∈ [(Cond.eq, Cond.ne), (.cs, .cc), (.fs, .fc), (.lt, .ge), (.le, .gt), (.lo, .hs), (.ls, .hi),
      (.uc, .never)] := by decide

theorem witness_ReturnComesBack :
    (∃ t u : State, exec (.call 9) ready = .next t ∧ u.readReg Reg.rsp = t.readReg Reg.rsp ∧
      u.readMain (ready.readReg Reg.rsp) = t.readMain (ready.readReg Reg.rsp)) ∧
    ∃ t u : State, exec (.calld 0x800) ready = .next t ∧ u.readReg Reg.rsp = t.readReg Reg.rsp ∧
      u.readMain (ready.readReg Reg.rsp) = t.readMain (ready.readReg Reg.rsp) :=
  ⟨⟨_, _, rfl, rfl, rfl⟩, _, _, rfl, rfl, rfl⟩

theorem witness_FlagsSavedAndRestored :
    ∃ t u : State, exec (.lsf 5) ready = .next t ∧ u.readReg 5 = t.readReg 5 ∧ u.flags ≠ ready.flags :=
  ⟨_, (ready.finish 5 ready.flags.toWord).setFlags (flagsOf 0b10111), rfl, rfl, by decide⟩

theorem witness_PopIncrementsThenLoads : (11 : Reg) ≠ Reg.rsp := by decide

theorem witness_PopGivesBackPush : (∃ t, exec (.push 11) ready = .next t) ∧ (11 : Reg) ≠ Reg.rsp := ⟨⟨_, rfl⟩, by decide⟩

theorem witness_StackPointerWraps :
    (start 0x0100 0xF08B [(Reg.rsp, 0)] 0 []).readReg Reg.rsp = 0x0000#16 ∧ ready.readReg Reg.rsp = 0xFFFF#16 ∧
    (11 : Reg) ≠ Reg.rsp := by decide

theorem witness_StoredInstructionRunsNext :
    let s := start 0x0100 0xF2BA [(2, 0x0101), (10, 0xCEFF)] 0 []
    decode s.fetch = .store 2 10 ∧ s.readReg 2 = s.pc + 1 ∧ Instr.wellFormed (.buc 0xFF) = true ∧
    s.readReg 10 = encode (.buc 0xFF) ∧ ∃ t, step s = .next t :=
  ⟨by decide, by decide, by decide, by decide, _, rfl⟩

theorem witness_EncodingsThatDoNothing :
    Instr.lshi 3 0 ∈ [Instr.bnever 5, .jnever 2, .or 3 3, .and 3 3, .mov 3 3, .lshi 3 0, .rshi 3 0, .alshi 3 0,
      .arshi 3 0, .ori 3 0, .xori 3 0, .nop] := by decide

theorem witness_EndedRunsStandStill :
    (start 0x0100 0xCEFF [] 0 []).ended = true ∧ decode (start 0x0100 0xFE2E [(14, 0x0100)] 0 []).fetch = .juc 14 ∧
    (start 0x0100 0xFE2E [(14, 0x0100)] 0 []).readReg 14 = (start 0x0100 0xFE2E [(14, 0x0100)] 0 []).pc := by decide

theorem witness_CyclesAdd : ∃ t, step ready = .next t ∧ Runs 1 ready t ∧ runCycles 1 ready = some 3 :=
  ⟨_, rfl, rfl, by decide⟩

-- a reserved word, where no step goes on
theorem witness_CyclesAdd_stop :
    (∀ t, step (start 0x0100 0xE000 [] 0 []) ≠ .next t) ∧ runCycles 1 (start 0x0100 0xE000 [] 0 []) = none :=
  ⟨fun _ h => (nomatch h), by decide⟩

end Sys2Proof.Tests
end

