-- ==== Sys2Proof/Proofs/StoredEncoding.lean ====
section
/-! SUPPORT. Which instruction a step runs: the decoder reads back the word of every well-formed instruction, and a step
runs what the decoder reads at `pc`. -/

namespace Sys2Proof

/-! ## The decoder on each format -/

/-- A word with `op` = 0000 is decoded by its `ext` (R60). -/
theorem decode_encodeFields_register (a ext c : BitVec 4) :
    decode (encodeFields 0b0000#4 a ext c) = decodeRegisterGroup (encodeFields 0b0000#4 a ext c) a.toFin c.toFin := by
  simp only [decode, op_encodeFields, rd_encodeFields, rs_encodeFields]
  rfl

/-- A word with `op` = 1111 is decoded by its `ext` (R61). -/
theorem decode_encodeFields_special (a ext c : BitVec 4) :
    decode (encodeFields 0b1111#4 a ext c) = decodeSpecialGroup (encodeFields 0b1111#4 a ext c) a.toFin c.toFin := by
  simp only [decode, op_encodeFields, rd_encodeFields, rs_encodeFields]
  rfl

/-- A B word is the branch on the condition whose code it holds (R55, R141). -/
theorem decode_encodeImm8_branch (c : Cond) (imm8 : BitVec 8) :
    decode (encodeImm8 0b1100#4 c.code imm8) = .branch c imm8 := by
  simp only [decode, op_encodeImm8, rd_encodeImm8, imm8_encodeImm8, Cond.ofCode_code]
  rfl

/-- A J word is the jump on the condition whose code it holds (R57, R141). -/
theorem decode_encodeFields_jump (c : Cond) (rs : Reg) :
    decode (encodeFields 0b1111#4 c.code 0b0010#4 (regBits rs)) = .jump c rs := by
  simp only [decode_encodeFields_special, decodeSpecialGroup, ext_encodeFields, Cond.ofCode_code, regBits_toFin]
  rfl

/-! ## Reserved words (R67) -/

/-- A mask acts on each field of a word by itself. -/
theorem regBits_nibble_and (w m : Word) (lo : Nat) :
    regBits (nibble (w &&& m) lo) = regBits (nibble w lo) &&& regBits (nibble m lo) :=
  BitVec.extractLsb'_and

theorem op_of_isReservedOp1110 {w : Word} (h : isReservedOp1110 w = true) : nibble w 12 = 14 := by
  have hmask : w &&& 0xF000#16 = 0xE000#16 := beq_iff_eq.1 h
  have hop := regBits_nibble_and w 0xF000#16 12
  rw [hmask] at hop
  revert hop
  generalize nibble w 12 = op
  revert op
  decide

theorem op_ext_of_isReservedOp1111Ext111x {w : Word} (h : isReservedOp1111Ext111x w = true) :
    nibble w 12 = 15 ∧ (nibble w 4 = 14 ∨ nibble w 4 = 15) := by
  have hmask : w &&& 0xF0E0#16 = 0xF0E0#16 := beq_iff_eq.1 h
  have hop := regBits_nibble_and w 0xF0E0#16 12
  have hext := regBits_nibble_and w 0xF0E0#16 4
  rw [hmask] at hop hext
  revert hop hext
  generalize nibble w 12 = op
  generalize nibble w 4 = ext
  revert op ext
  decide

/-- A word of the first reserved range is decoded to itself. -/
theorem decode_of_isReservedOp1110 {w : Word} (h : isReservedOp1110 w = true) : decode w = .reservedOp1110 w := by
  simp only [decode, op_of_isReservedOp1110 h]

/-- A word of the second reserved range is decoded to itself. -/
theorem decode_of_isReservedOp1111Ext111x {w : Word} (h : isReservedOp1111Ext111x w = true) :
    decode w = .reservedOp1111Ext111x w := by
  obtain ⟨hop, hext | hext⟩ := op_ext_of_isReservedOp1111Ext111x h <;>
    simp only [decode, decodeSpecialGroup, hop, hext]

/-! ## Every format together -/

/-- The decoder reads back every instruction that has a word of its own (R58, R66, R67), format by format. -/
theorem decode_encode {i : Instr} (h : i.wellFormed = true) : decode (encode i) = i := by
  cases i
  case add | addc | mul | sub | cmp | not | and | or | xor | lsh | lshi | rsh | rshi | alsh | alshi | arsh =>
    simp [encode, decode_encodeFields_register, decodeRegisterGroup]
  case addi | addci | muli | subi | cmpi | noti | andi | ori | xori | movil | moviu =>
    simp [encode, decode]
  case beq imm8 | bne imm8 | bcs imm8 | bcc imm8 | bfs imm8 | bfc imm8 | blt imm8 | ble imm8 | blo imm8 | bls imm8 |
      bgt imm8 | bge imm8 | bhi imm8 | bhs imm8 | buc imm8 | bnever imm8 =>
    exact decode_encodeImm8_branch _ imm8
  case calld => simp [encode, decode]
  case jeq rs | jne rs | jcs rs | jcc rs | jfs rs | jfc rs | jlt rs | jle rs | jlo rs | jls rs | jgt rs | jge rs |
      jhi rs | jhs rs | juc rs | jnever rs =>
    exact decode_encodeFields_jump _ rs
  case arshi | mov | call | ret | lpc | lsf | ssf | push | pop | load | store | loadx | storex =>
    simp [encode, decode_encodeFields_special, decodeSpecialGroup]
  case nop => exact nomatch h
  case reservedOp1110 => exact decode_of_isReservedOp1110 h
  case reservedOp1111Ext111x => exact decode_of_isReservedOp1111Ext111x h

end Sys2Proof

namespace Sys2Proof.Machine

/-! ## The step -/

/-- A step runs the instruction the fetched word decodes to, and nothing else (R3). -/
theorem step_eq_exec_of_decode {s : State} {i : Instr} (h : decode s.fetch = i) : step s = exec i s :=
  congrArg (exec · s) h

/-- A word that main memory holds is the word a read of its address gives (R35). -/
theorem State.readMain_of_read {s : State} {a w : Word} (h : Memory.read s.mem a.toNat = some w) :
    s.readMain a = w := by
  rw [State.readMain, h, Option.getD_some]

/-- The fetch reads main memory at `pc` (R42, D3). -/
theorem State.fetch_of_read {s : State} {w : Word} (h : Memory.read s.mem s.pc.toNat = some w) : s.fetch = w :=
  s.fetch_eq.trans (State.readMain_of_read h)

/-- Settles O7: the hypothesis that the instruction is well formed is not needed, since a step runs whatever the fetched
word decodes to. -/
theorem stepRunsDecodedInstruction : Obligations.StepRunsDecodedInstruction :=
  fun _ _ hdecode _ => step_eq_exec_of_decode hdecode

/-- Settles O8: the fetch reads the stored encoding, and the decoder reads the instruction back from it. -/
theorem stepRunsStoredEncoding : Obligations.StepRunsStoredEncoding := by
  intro s i hwf hstored
  have hdecode : decode s.fetch = i := by rw [State.fetch_of_read hstored, decode_encode hwf]
  exact step_eq_exec_of_decode hdecode

end Sys2Proof.Machine
end

/-! SUPPORT. Every state an instruction can leave behind, and what each of them keeps of the state before: the
canonical form of memory, the other registers, the other flags, and the way to the next word. -/

namespace Sys2Proof.Machine

/-! ## Named flags (R19) -/

/-- A write to the flags is seen in those the policy lets the group write, and in no other. -/
theorem Flags.get_write (old new : Flags) (group : FlagGroup) (name : FlagName) :
    (old.write group new).get name = if flagPolicy group name then new.get name else old.get name := by
  cases name <;> exact Bool.cond_eq_ite ..

theorem Flags.get_write_flagGroup {i : Instr} {name : FlagName} (h : name ∉ flagsWritten i) (old new : Flags) :
    (old.write (flagGroup i) new).get name = old.get name := by
  rw [Flags.get_write, if_neg (mt (mem_flagsWritten_iff_flagPolicy i name).2 h)]

/-! ## A register written with its own value -/

/-- Nothing but `pc` changes, so that NOP, which runs as `OR r0, r0`, needs no register in its table (R190). -/
theorem State.finish_readReg_self (s : State) (r : Reg) : s.finish r (s.readReg r) = s.advance := by
  refine State.ext_fields (fun q => ?_) rfl rfl rfl rfl rfl
  by_cases hq : q = r <;> simp [hq]

/-! ## What an instruction can leave behind -/

/-- `Leaves i s t`: the tables of `Footprint.lean` allow the instruction `i` to take `s` to `t`. One constructor for
each way to go on, with the entries of the tables that allow it. -/
inductive Leaves (i : Instr) (s : State) : State → Prop
  | wroteReg (rd : Reg) (v : Word) (hregs : rd ∈ regsWritten i) : Leaves i s (s.finish rd v)
  | drewReg (rd : Reg) (v : Word) (hregs : rd ∈ regsWritten i) (hshift : isRegShift i = true) :
      Leaves i s (s.countDraw.finish rd v)
  | wroteRegAndFlags (rd : Reg) (v : Word) (new : Flags) (hregs : rd ∈ regsWritten i) :
      Leaves i s ((s.setFlags (s.flags.write (flagGroup i) new)).finish rd v)
  | wroteFlags (new : Flags) : Leaves i s (s.setFlags (s.flags.write (flagGroup i) new)).advance
  | wentOn : Leaves i s s.advance
  | jumped (target : Word) (htransfer : isTransfer i = true) : Leaves i s (s.setPc target)
  | called (target : Word) (htransfer : isTransfer i = true) (hregs : Reg.rsp ∈ regsWritten i)
      (hstore : storeAddr i s = some (s.readReg Reg.rsp)) : Leaves i s ((s.push s.nextPc).setPc target)
  | returned (htransfer : isTransfer i = true) (hregs : Reg.rsp ∈ regsWritten i) :
      Leaves i s (s.popped.setPc s.popWord)
  | pushed (v : Word) (hregs : Reg.rsp ∈ regsWritten i) (hstore : storeAddr i s = some (s.readReg Reg.rsp)) :
      Leaves i s (s.push v).advance
  | popped (rd : Reg) (hregs : rd ∈ regsWritten i) (hrsp : Reg.rsp ∈ regsWritten i) :
      Leaves i s (s.popped.finish rd s.popWord)
  | stored (a v : Word) (hstore : storeAddr i s = some a) : Leaves i s (s.writeMain a v).advance
  | readExt (e : ExtEvent) (rd : Reg) (v : Word) (hregs : rd ∈ regsWritten i) (hext : isExternal i = true) :
      Leaves i s ((s.recordExt e).finish rd v)
  | wroteExt (e : ExtEvent) (hext : isExternal i = true) : Leaves i s (s.recordExt e).advance

/-- A jump or branch sets `pc`, to its target or to the next word (R143, R144). -/
theorem Leaves.jumpIf {i : Instr} (h : isTransfer i = true) (s : State) (c : Cond) (rs : Reg) :
    Leaves i s (s.jumpIf c rs) := by
  rw [s.jumpIf_does]
  exact .jumped _ h

theorem Leaves.branchIf {i : Instr} (h : isTransfer i = true) (s : State) (c : Cond) (imm8 : BitVec 8) :
    Leaves i s (s.branchIf c imm8) := by
  rw [s.branchIf_does]
  exact .jumped _ h

/-- A register shift writes its destination, with a free value when the amount is out of range (R111). -/
theorem Leaves.shiftByReg {i : Instr} {rd : Reg} (hregs : rd ∈ regsWritten i) (hshift : isRegShift i = true)
    (s : State) (op : ShiftOp) (rs : Reg) : Leaves i s (s.shiftByReg op rd rs) := by
  rw [s.shiftByReg_does]
  split
  · exact .wroteReg rd _ hregs
  · exact .drewReg rd _ hregs hshift

/-- Whatever an instruction answers but a stop is in its tables. -/
theorem leaves_of_exec {i : Instr} {s t : State} (h : exec i s = .next t) : Leaves i s t := by
  cases i
  case add rd _ | addi rd _ | addc rd _ | addci rd _ | sub rd _ | subi rd _ =>
    obtain rfl := next_injective h
    exact .wroteRegAndFlags rd _ _ (List.mem_singleton_self rd)
  case cmp | cmpi | ssf =>
    obtain rfl := next_injective h
    exact .wroteFlags _
  case mul rd _ | muli rd _ | not rd _ | noti rd _ | and rd _ | andi rd _ | or rd _ | ori rd _ | xor rd _ | xori rd _ |
      lshi rd _ | rshi rd _ | alshi rd _ | arshi rd _ | mov rd _ | movil rd _ | moviu rd _ | lpc rd | lsf rd |
      load rd _ =>
    obtain rfl := next_injective h
    exact .wroteReg rd _ (List.mem_singleton_self rd)
  case lsh rd rs | rsh rd rs | alsh rd rs | arsh rd rs =>
    obtain rfl := next_injective h
    exact .shiftByReg (List.mem_singleton_self rd) rfl s _ rs
  case beq imm8 | bne imm8 | bcs imm8 | bcc imm8 | bfs imm8 | bfc imm8 | blt imm8 | ble imm8 | blo imm8 | bls imm8 |
      bgt imm8 | bge imm8 | bhi imm8 | bhs imm8 | buc imm8 | bnever imm8 =>
    obtain rfl := next_injective h
    exact .branchIf rfl s _ imm8
  case jeq rs | jne rs | jcs rs | jcc rs | jfs rs | jfc rs | jlt rs | jle rs | jlo rs | jls rs | jgt rs | jge rs |
      jhi rs | jhs rs | juc rs | jnever rs =>
    obtain rfl := next_injective h
    exact .jumpIf rfl s _ rs
  case call | calld =>
    obtain rfl := next_injective h
    exact .called _ rfl (List.mem_singleton_self _) rfl
  case ret =>
    obtain rfl := next_injective h
    exact .returned rfl (List.mem_singleton_self _)
  case push =>
    obtain rfl := next_injective h
    exact .pushed _ (List.mem_singleton_self _) rfl
  case pop rd =>
    obtain rfl := next_injective h
    exact .popped rd List.mem_cons_self (List.mem_cons_of_mem _ (List.mem_singleton_self _))
  case store rd rs =>
    obtain rfl := next_injective h
    exact .stored _ _ rfl
  case loadx rd _ =>
    obtain rfl := next_injective h
    exact .readExt _ rd _ (List.mem_singleton_self rd) rfl
  case storex =>
    obtain rfl := next_injective h
    exact .wroteExt _ rfl
  case nop =>
    obtain rfl := next_injective h
    rw [BitVec.or_self, s.finish_readReg_self]
    exact .wentOn
  case reservedOp1110 | reservedOp1111Ext111x => exact nomatch h

/-! ## What each of them keeps -/

/-- The canonical form of memory is kept: only the word stored is written, at an address below 65536 (R44). -/
theorem Leaves.mem_wf {i : Instr} {s t : State} (h : Leaves i s t) (hs : s.mem.wf) : t.mem.wf := by
  cases h
  case called | pushed => exact State.push_wf hs _
  case stored => exact State.writeMain_wf hs _ _
  case wroteReg | drewReg | wroteRegAndFlags | wroteFlags | wentOn | jumped | returned | popped | readExt |
      wroteExt => exact hs

/-- A register outside the table keeps its value (R12, R80). -/
theorem Leaves.readReg_eq {i : Instr} {s t : State} (h : Leaves i s t) {r : Reg} (hr : r ∉ regsWritten i) :
    t.readReg r = s.readReg r := by
  have hne : ∀ {q}, q ∈ regsWritten i → r ≠ q := fun hq he => hr (he ▸ hq)
  cases h
  case wroteReg hregs | drewReg hregs _ | wroteRegAndFlags hregs | readExt hregs _ => simp [hne hregs]
  case called hregs _ | returned hregs | pushed hregs _ => simp [hne hregs]
  case popped hregs hrsp => simp [hne hregs, hne hrsp]
  case wroteFlags | wentOn | jumped | stored | wroteExt => rfl

/-- A flag the policy does not let the instruction write keeps its value (R19, D10). -/
theorem Leaves.flag_eq {i : Instr} {s t : State} (h : Leaves i s t) {name : FlagName}
    (hname : name ∉ flagsWritten i) : t.flags.get name = s.flags.get name := by
  cases h
  case wroteRegAndFlags | wroteFlags => exact Flags.get_write_flagGroup hname _ _
  case wroteReg | drewReg | wentOn | jumped | called | returned | pushed | popped | stored | readExt | wroteExt =>
    rfl

/-- What is no transfer goes on to the next word (R15). -/
theorem Leaves.pc_eq {i : Instr} {s t : State} (h : Leaves i s t) (hi : isTransfer i = false) : t.pc = s.pc + 1 := by
  cases h
  case jumped htransfer | called htransfer _ _ | returned htransfer _ => exact absurd htransfer (Bool.eq_false_iff.1 hi)
  case wroteReg | drewReg | wroteRegAndFlags | wroteFlags | wentOn | pushed | popped | stored | readExt | wroteExt =>
    rfl

/-! ## The sixteen variants of J and B as one (R145) -/

theorem exec_jump (c : Cond) (rs : Reg) (s : State) : exec (.jump c rs) s = .next (s.jumpIf c rs) := by
  cases c <;> rfl

theorem exec_branch (c : Cond) (imm8 : BitVec 8) (s : State) :
    exec (.branch c imm8) s = .next (s.branchIf c imm8) := by
  cases c <;> rfl

theorem State.jumpIf_pc_of_not_condHolds {c : Cond} {s : State} (h : condHolds c s.flags = false) (rs : Reg) :
    (s.jumpIf c rs).pc = s.pc + 1 := by
  simp [s.jumpIf_does, h]

theorem State.branchIf_pc_of_not_condHolds {c : Cond} {s : State} (h : condHolds c s.flags = false)
    (imm8 : BitVec 8) : (s.branchIf c imm8).pc = s.pc + 1 := by
  simp [s.branchIf_does, h]

/-! ## The statements -/

/-- Settles O11: a step is one `exec`, and every state an instruction leaves keeps the canonical form. -/
theorem stepKeepsMemoryCanonical : Obligations.StepKeepsMemoryCanonical :=
  fun _ _ hs hstep => (leaves_of_exec hstep).mem_wf hs

/-- Settles O15: each register written by a state an instruction leaves stands in the table. -/
theorem otherRegistersUnchanged : Obligations.OtherRegistersUnchanged :=
  fun _ _ _ h _ hr => (leaves_of_exec h).readReg_eq hr

/-- Settles O16: flags change by the policy's write alone, and the table lists what the policy allows. -/
theorem otherFlagsUnchanged : Obligations.OtherFlagsUnchanged :=
  fun _ _ _ h _ hname => (leaves_of_exec h).flag_eq hname

/-- Settles O19: a non-transfer by the states it can leave, an untaken J or B by the one equation of each. -/
theorem sequentialAdvance : Obligations.SequentialAdvance :=
  ⟨fun _ _ _ hi h => (leaves_of_exec h).pc_eq hi, fun c s hc =>
    ⟨fun rs => ⟨_, exec_jump c rs s, State.jumpIf_pc_of_not_condHolds hc rs⟩,
     fun imm8 => ⟨_, exec_branch c imm8 s, State.branchIf_pc_of_not_condHolds hc imm8⟩⟩⟩

end Sys2Proof.Machine

/-! SUPPORT. What an instruction keeps outside the registers: the other words of main memory, the record of external
accesses and the counter of draws; and the two steps of a program that writes its own next word. -/

namespace Sys2Proof.Machine

/-! ## Main memory (R33) -/

/-- A word that is not the one the instruction stores keeps its value. -/
theorem Leaves.readMain_eq {i : Instr} {s t : State} (h : Leaves i s t) {a : Word} (ha : storeAddr i s ≠ some a) :
    t.readMain a = s.readMain a := by
  have hne : ∀ {b}, storeAddr i s = some b → a ≠ b := fun hb he => ha (he ▸ hb)
  cases h
  case called hstore | pushed hstore | stored hstore => simp [hne hstore]
  case wroteReg | drewReg | wroteRegAndFlags | wroteFlags | wentOn | jumped | returned | popped | readExt |
      wroteExt => rfl

/-! ## The external space (R36) and the counter of draws -/

/-- What is not external leaves the record of external accesses alone. -/
theorem Leaves.ext_eq {i : Instr} {s t : State} (h : Leaves i s t) (hi : isExternal i = false) : t.ext = s.ext := by
  cases h
  case readExt hext | wroteExt hext => exact absurd hext (Bool.eq_false_iff.1 hi)
  case wroteReg | drewReg | wroteRegAndFlags | wroteFlags | wentOn | jumped | called | returned | pushed | popped |
      stored => rfl

/-- The external space has one instruction to read it and one to write it. -/
theorem loadx_or_storex_of_isExternal {i : Instr} (hi : isExternal i = true) :
    ∃ rd rs, i = .loadx rd rs ∨ i = .storex rd rs := by
  cases i
  case loadx rd rs => exact ⟨rd, rs, .inl rfl⟩
  case storex rd rs => exact ⟨rd, rs, .inr rfl⟩
  all_goals exact nomatch hi

/-- Each of the two appends the one access it makes to the record (D4). -/
theorem ext_append_of_isExternal {i : Instr} {s t : State} (hi : isExternal i = true) (h : exec i s = .next t) :
    ∃ e, t.ext = s.ext ++ [e] := by
  obtain ⟨rd, rs, rfl | rfl⟩ := loadx_or_storex_of_isExternal hi
  · obtain rfl := next_injective h
    exact ⟨.read (s.readReg rs) (s.extValue (s.readReg rs)), rfl⟩
  · obtain rfl := next_injective h
    exact ⟨.write (s.readReg rd) (s.readReg rs), rfl⟩

/-- The counter advances by one draw of a register shift, or not at all (R23). -/
theorem Leaves.draws_eq_or {i : Instr} {s t : State} (h : Leaves i s t) :
    t.draws = s.draws ∨ (isRegShift i = true ∧ t.draws = s.draws + 1) := by
  cases h
  case drewReg hshift => exact .inr ⟨hshift, rfl⟩
  case wroteReg | wroteRegAndFlags | wroteFlags | wentOn | jumped | called | returned | pushed | popped | stored |
      readExt | wroteExt => exact .inl rfl

/-! ## Code that is stored and then fetched (R39, R42) -/

/-- A STORE to the word after its own leaves the next fetch the word it stored. -/
theorem fetch_after_store {rd rs : Reg} {s t : State} (hrd : s.readReg rd = s.pc + 1)
    (h : exec (.store rd rs) s = .next t) : t.fetch = s.readReg rs := by
  obtain rfl := next_injective h
  simp [State.fetch_eq, hrd]

/-! ## The statements -/

/-- Settles O17: each word written by a state an instruction leaves is the one `storeAddr` names. -/
theorem otherWordsUnchanged : Obligations.OtherWordsUnchanged :=
  fun _ _ _ h _ ha => (leaves_of_exec h).readMain_eq ha

/-- Settles O18: the states an instruction can leave bound what happens to the record and the counter; that LOADX and
STOREX do append is read off their meanings. -/
theorem externalAccessesAndDraws : Obligations.ExternalAccessesAndDraws := by
  intro i s t h
  have hdraws := (leaves_of_exec h).draws_eq_or
  refine ⟨(leaves_of_exec h).ext_eq, fun hi => ext_append_of_isExternal hi h, fun hi => ?_, hdraws.imp_right And.right⟩
  exact hdraws.resolve_right fun ⟨hshift, _⟩ => Bool.eq_false_iff.1 hi hshift

/-- Settles O54: the second step fetches the word the first one stored, and the decoder reads `i` back from it. -/
theorem storedInstructionRunsNext : Obligations.StoredInstructionRunsNext := by
  intro rd rs s t i hdecode hrd hwf hrs hstep
  rw [step_eq_exec_of_decode hdecode] at hstep
  refine step_eq_exec_of_decode ?_
  rw [fetch_after_store hrd hstep, hrs, decode_encode hwf]

/-- Settles O51: PUSH leaves 0x0000 - 1 = 0xFFFF, and POP and RET read at 0xFFFF + 1 = 0x0000. -/
theorem stackPointerWraps : Obligations.StackPointerWraps := by
  refine ⟨fun rs s hbottom => ⟨(s.push (s.readReg rs)).advance, rfl, ?_, ?_⟩, fun s htop =>
    ⟨fun rd hrd => ⟨s.popped.finish rd s.popWord, rfl, ?_, ?_⟩, s.popped.setPc s.popWord, rfl, ?_, ?_⟩⟩
  · simp [hbottom]
  · simp [hbottom]
  · simp [htop, hrd.symm]
  · simp [htop]
  · simp [htop]
  · simp [htop]

end Sys2Proof.Machine

/-! SUPPORT. The decoder from the side of the word: each format's word put together again from its own fields, what a
mask fixes of those fields, the row of the match and mask table a word lies in; the widened immediates; and the
instructions that do nothing. -/

namespace Sys2Proof

/-! ## A word from the fields of its format (R51, R54, R56) -/

theorem getLsbD_regBits_nibble (w : Word) (lo : Nat) {i : Nat} (hi : i < 4) :
    (regBits (nibble w lo)).getLsbD i = w.getLsbD (lo + i) := by
  rw [nibble, regBits_ofNibble, BitVec.getLsbD_extractLsb', decide_eq_true hi, Bool.true_and]

/-- A word is its two high fields and its low byte. -/
theorem encodeImm8_nibbles (w : Word) :
    encodeImm8 (regBits (nibble w 12)) (regBits (nibble w 8)) (imm8Of w) = w := by
  apply BitVec.eq_of_getLsbD_eq
  intro i hi
  rw [getLsbD_encodeImm8]
  split_ifs with hlow hmid
  · rw [imm8Of, BitVec.getLsbD_extractLsb', decide_eq_true hlow, Bool.true_and, Nat.zero_add]
  · rw [getLsbD_regBits_nibble w 8 (by omega), Nat.add_sub_cancel' (by omega)]
  · rw [getLsbD_regBits_nibble w 12 (by omega), Nat.add_sub_cancel' (by omega)]

/-- A word is its highest field and its low twelve bits. -/
theorem encodeImm12_nibble (w : Word) : encodeImm12 (regBits (nibble w 12)) (imm12Of w) = w := by
  apply BitVec.eq_of_getLsbD_eq
  intro i hi
  rw [getLsbD_encodeImm12]
  split_ifs with hlow
  · rw [imm12Of, BitVec.getLsbD_extractLsb', decide_eq_true hlow, Bool.true_and, Nat.zero_add]
  · rw [getLsbD_regBits_nibble w 12 (by omega), Nat.add_sub_cancel' (by omega)]

theorem encodeFields_of_op_ext {w : Word} {op ext : BitVec 4} (hop : nibble w 12 = op.toFin)
    (hext : nibble w 4 = ext.toFin) : encodeFields op (regBits (nibble w 8)) ext (regBits (nibble w 0)) = w := by
  have h := encodeFields_nibbles w
  rwa [hop, hext] at h

theorem encodeImm8_of_op {w : Word} {op : BitVec 4} (hop : nibble w 12 = op.toFin) :
    encodeImm8 op (regBits (nibble w 8)) (imm8Of w) = w := by
  have h := encodeImm8_nibbles w
  rwa [hop] at h

theorem encodeImm12_of_op {w : Word} {op : BitVec 4} (hop : nibble w 12 = op.toFin) :
    encodeImm12 op (imm12Of w) = w := by
  have h := encodeImm12_nibble w
  rwa [hop] at h

/-! ## The encoding of what a word decodes to -/

/-- The condition a field names has that field as its code (R141). -/
theorem Cond.code_ofCode_eq_regBits (k : Fin 16) : (Cond.ofCode k).code = regBits k :=
  congrArg BitVec.ofFin (Cond.code_ofCode k)

theorem encode_branch (c : Cond) (imm8 : BitVec 8) : encode (.branch c imm8) = encodeImm8 0b1100#4 c.code imm8 := by
  cases c <;> rfl

theorem encode_jump (c : Cond) (rs : Reg) :
    encode (.jump c rs) = encodeFields 0b1111#4 c.code 0b0010#4 (regBits rs) := by
  cases c <;> rfl

theorem decode_of_op_zero {w : Word} (hop : nibble w 12 = 0) :
    decode w = decodeRegisterGroup w (nibble w 8) (nibble w 0) := by
  simp only [decode, hop]

theorem decode_of_op_branch {w : Word} (hop : nibble w 12 = 12) :
    decode w = .branch (Cond.ofCode (nibble w 8)) (imm8Of w) := by
  simp only [decode, hop]

theorem decode_of_op_ones {w : Word} (hop : nibble w 12 = 15) :
    decode w = decodeSpecialGroup w (nibble w 8) (nibble w 0) := by
  simp only [decode, hop]

/-- In the group `op` = 0000 every bit is an operand or selects the instruction (R60). -/
theorem encode_decodeRegisterGroup {w : Word} (hop : nibble w 12 = 0) :
    encode (decodeRegisterGroup w (nibble w 8) (nibble w 0)) = w := by
  fun_cases decodeRegisterGroup w (nibble w 8) (nibble w 0)
  all_goals next hext => exact encodeFields_of_op_ext hop hext

/-- The word has a don't-care field: it is one of CALL, RET, LPC, LSF, SSF, PUSH, POP (R66). -/
abbrev HasDontCareField (w : Word) : Prop := nibble w 12 = 15 ∧ 3 ≤ nibble w 4 ∧ nibble w 4 ≤ 9

theorem HasDontCareField.ext_eq {w : Word} (h : HasDontCareField w) :
    nibble w 4 = 3 ∨ nibble w 4 = 4 ∨ nibble w 4 = 5 ∨ nibble w 4 = 6 ∨ nibble w 4 = 7 ∨ nibble w 4 = 8 ∨
      nibble w 4 = 9 := by
  obtain ⟨-, hmin, hmax⟩ := h
  revert hmin hmax
  generalize nibble w 4 = ext
  revert ext
  decide

/-- In the group `op` = 1111 only the seven instructions with a don't-care field drop bits (R61, R66, R67). -/
theorem encode_decodeSpecialGroup {w : Word} (hop : nibble w 12 = 15) (hlive : ¬HasDontCareField w) :
    encode (decodeSpecialGroup w (nibble w 8) (nibble w 0)) = w := by
  fun_cases decodeSpecialGroup w (nibble w 8) (nibble w 0)
  case case1 hext | case2 hext | case11 hext | case12 hext | case13 hext | case14 hext =>
    exact encodeFields_of_op_ext hop hext
  case case3 hext => -- J[condition], its condition in the field of Rdest
    rw [encode_jump, Cond.code_ofCode_eq_regBits]
    exact encodeFields_of_op_ext hop hext
  case case4 hext | case5 hext | case6 hext | case7 hext | case8 hext | case9 hext | case10 hext =>
    exact absurd ⟨hop, by rw [hext]; decide⟩ hlive
  case case15 | case16 => rfl -- the reserved words, kept whole

/-- Every word without a don't-care field is the word of what it decodes to (R58). -/
theorem encode_decode {w : Word} (hlive : ¬HasDontCareField w) : encode (decode w) = w := by
  fun_cases decode w
  case case1 hop => exact encode_decodeRegisterGroup hop
  case case13 hop => -- B[condition]
    rw [encode_branch, Cond.code_ofCode_eq_regBits]
    exact encodeImm8_of_op hop
  case case14 hop => exact encodeImm12_of_op hop -- CALLD
  case case15 => rfl -- a reserved word
  case case16 hop => exact encode_decodeSpecialGroup hop hlive
  all_goals next hop => exact encodeImm8_of_op hop

/-! ## What a mask leaves of a word, and what it fixes of the word's fields (R73) -/

theorem and_of_op_ext {w : Word} {op ext : BitVec 4} (hop : nibble w 12 = op.toFin) (hext : nibble w 4 = ext.toFin) :
    w &&& 0xF0F0#16 = encodeFields op 0 ext 0 := by
  have h := Laws.EncodesIntoRow.fields_masked op (regBits (nibble w 8)) ext (regBits (nibble w 0))
  rwa [encodeFields_of_op_ext hop hext] at h

theorem and_of_op {w : Word} {op : BitVec 4} (hop : nibble w 12 = op.toFin) :
    w &&& 0xF000#16 = encodeImm8 op 0 0 := by
  have h := Laws.EncodesIntoRow.imm8_masked op (regBits (nibble w 8)) (imm8Of w)
  rwa [encodeImm8_of_op hop] at h

/-- Where the mask is all ones on a field, the word agrees there with what is left of it. -/
theorem nibble_of_and {w m p : Word} (lo : Nat) (h : w &&& m = p) (hm : regBits (nibble m lo) = 15#4) :
    nibble w lo = nibble p lo := by
  have hfield : regBits (nibble p lo) = regBits (nibble w lo) &&& 15#4 := by
    rw [← h, ← hm, regBits_nibble_and]
  exact congrArg BitVec.toFin (hfield.trans BitVec.and_allOnes).symm

/-! ## What a word decodes to is well formed -/

theorem wellFormed_branch (c : Cond) (imm8 : BitVec 8) : (Instr.branch c imm8).wellFormed = true := by
  cases c <;> rfl

theorem wellFormed_jump (c : Cond) (rs : Reg) : (Instr.jump c rs).wellFormed = true := by
  cases c <;> rfl

theorem isReservedOp1110_of_op {w : Word} (hop : nibble w 12 = 14) : isReservedOp1110 w = true :=
  beq_iff_eq.2 (and_of_op (op := 0b1110#4) hop)

/-- The mask of the second range leaves out the lowest bit of `ext`. -/
theorem isReservedOp1111Ext111x_of_op_ext {w : Word} {ext : BitVec 4} (hop : nibble w 12 = 15)
    (hext : nibble w 4 = ext.toFin) (hreserved : ext = 14#4 ∨ ext = 15#4) : isReservedOp1111Ext111x w = true := by
  have hmask : w &&& 0xF0E0#16 = encodeFields 0b1111#4 0 ext 0 &&& 0xF0E0#16 := by
    rw [← and_of_op_ext (op := 0b1111#4) hop hext, BitVec.and_assoc]
    rfl
  rw [isReservedOp1111Ext111x, hmask]
  obtain rfl | rfl := hreserved <;> rfl

theorem wellFormed_decodeSpecialGroup {w : Word} (hop : nibble w 12 = 15) (rd rs : Reg) :
    (decodeSpecialGroup w rd rs).wellFormed = true := by
  fun_cases decodeSpecialGroup w rd rs
  case case3 => exact wellFormed_jump _ rs
  case case15 hext => exact isReservedOp1111Ext111x_of_op_ext (ext := 14#4) hop hext (.inl rfl)
  case case16 hext => exact isReservedOp1111Ext111x_of_op_ext (ext := 15#4) hop hext (.inr rfl)
  all_goals rfl

/-- The decoder never answers NOP, and answers a reserved term only with a word of its range (R67, R190). -/
theorem wellFormed_decode (w : Word) : (decode w).wellFormed = true := by
  fun_cases decode w
  case case1 => fun_cases decodeRegisterGroup w _ _ <;> rfl
  case case13 => exact wellFormed_branch _ _
  case case15 hop => exact isReservedOp1110_of_op hop
  case case16 hop => exact wellFormed_decodeSpecialGroup hop _ _
  all_goals rfl

/-! ## The row of a word (R73) -/

/-- The word of a well-formed instruction lies in its row, format by format. -/
theorem row_holds_encode {i : Instr} (hwf : i.wellFormed = true) : i.row.holds (encode i) = true := by
  cases i
  case add | addc | mul | sub | cmp | not | and | or | xor | lsh | lshi | rsh | rshi | alsh | alshi | arsh | arshi |
      mov | call | ret | lpc | lsf | ssf | push | pop | load | store | loadx | storex =>
    exact Laws.EncodesIntoRow.holds_of (Laws.EncodesIntoRow.fields_masked ..) rfl
  case addi | addci | muli | subi | cmpi | noti | andi | ori | xori | movil | moviu =>
    exact Laws.EncodesIntoRow.holds_of (Laws.EncodesIntoRow.imm8_masked ..) rfl
  case beq | bne | bcs | bcc | bfs | bfc | blt | ble | blo | bls | bgt | bge | bhi | bhs | buc | bnever =>
    exact Laws.EncodesIntoRow.holds_of (Laws.EncodesIntoRow.imm8_masked_cond ..) rfl
  case calld => exact Laws.EncodesIntoRow.calld _ hwf
  case jeq | jne | jcs | jcc | jfs | jfc | jlt | jle | jlo | jls | jgt | jge | jhi | jhs | juc | jnever =>
    exact Laws.EncodesIntoRow.holds_of (Laws.EncodesIntoRow.fields_masked_cond ..) rfl
  case nop => exact Laws.EncodesIntoRow.nop hwf
  case reservedOp1110 | reservedOp1111Ext111x => exact hwf

/-- A word with a don't-care field lies in the row of its instruction, whose mask leaves the field out (R66). -/
theorem row_decodeSpecialGroup_holds {w : Word} (h : HasDontCareField w) (rd rs : Reg) :
    (decodeSpecialGroup w rd rs).row.holds w = true := by
  obtain hext | hext | hext | hext | hext | hext | hext := h.ext_eq
  all_goals
    rw [decodeSpecialGroup, hext]
    exact Laws.EncodesIntoRow.holds_of (and_of_op_ext (op := 0b1111#4) h.1 hext) rfl

/-- Every word lies in the row of what it decodes to: it is the encoding of it, or it differs from the encoding in a
don't-care field alone. -/
theorem row_decode_holds (w : Word) : (decode w).row.holds w = true := by
  by_cases h : HasDontCareField w
  · rw [decode_of_op_ones h.1]
    exact row_decodeSpecialGroup_holds h _ _
  · have hencode := row_holds_encode (wellFormed_decode w)
    rwa [encode_decode h] at hencode

/-- A word in the row of a well-formed instruction decodes into that row: the row's mask covers every field the decoder
selects by. -/
theorem row_decode_of_holds {i : Instr} {w : Word} (hwf : i.wellFormed = true) (h : i.row.holds w = true) :
    (decode w).row = i.row := by
  have hmask : w &&& i.row.mask = i.row.pattern := beq_iff_eq.1 h
  cases i <;> simp only [Instr.row] at hmask
  case add | addc | mul | sub | cmp | not | and | or | xor | lsh | lshi | rsh | rshi | alsh | alshi | arsh =>
    have hop : nibble w 12 = 0 := nibble_of_and 12 hmask rfl
    have hext := nibble_of_and 4 hmask rfl
    rw [decode_of_op_zero hop, decodeRegisterGroup, hext]
    rfl
  case addi | addci | muli | subi | cmpi | noti | andi | ori | xori | movil | moviu | calld =>
    have hop := nibble_of_and 12 hmask rfl
    rw [decode, hop]
    rfl
  case beq | bne | bcs | bcc | bfs | bfc | blt | ble | blo | bls | bgt | bge | bhi | bhs | buc | bnever =>
    have hop : nibble w 12 = 12 := nibble_of_and 12 hmask rfl
    have hcond := nibble_of_and 8 hmask rfl
    rw [decode_of_op_branch hop, hcond]
    rfl
  case jeq | jne | jcs | jcc | jfs | jfc | jlt | jle | jlo | jls | jgt | jge | jhi | jhs | juc | jnever =>
    have hop : nibble w 12 = 15 := nibble_of_and 12 hmask rfl
    have hext := nibble_of_and 4 hmask rfl
    have hcond := nibble_of_and 8 hmask rfl
    rw [decode_of_op_ones hop, decodeSpecialGroup, hext, hcond]
    rfl
  case arshi | mov | call | ret | lpc | lsf | ssf | push | pop | load | store | loadx | storex =>
    have hop : nibble w 12 = 15 := nibble_of_and 12 hmask rfl
    have hext := nibble_of_and 4 hmask rfl
    rw [decode_of_op_ones hop, decodeSpecialGroup, hext]
    rfl
  case nop => exact nomatch hwf
  case reservedOp1110 =>
    rw [decode_of_isReservedOp1110 h]
    rfl
  case reservedOp1111Ext111x =>
    rw [decode_of_isReservedOp1111Ext111x h]
    rfl

/-! ## Don't-care fields (R66) -/

/-- A word that agrees with the canonical word `p` in `op` and `ext` decodes as `p` does, but for its own registers. -/
theorem decode_of_and_dontCare {w p : Word} (h : w &&& 0xF0F0#16 = p) (hp : HasDontCareField p) :
    decode w = decodeSpecialGroup p (nibble w 8) (nibble w 0) := by
  have hop : nibble w 12 = 15 := (nibble_of_and 12 h rfl).trans hp.1
  rw [decode_of_op_ones hop, decodeSpecialGroup, nibble_of_and 4 h rfl]
  obtain hext | hext | hext | hext | hext | hext | hext := hp.ext_eq
  all_goals rw [decodeSpecialGroup, hext]

/-! ## The statements about words -/

/-- Settles O1: `decode_encode`, which goes through the instructions format by format. -/
theorem decodeOfEncode : Obligations.DecodeOfEncode := fun _ hwf => decode_encode hwf

/-- Settles O2: a word with a don't-care field is the exception the statement names. -/
theorem encodeOfDecode : Obligations.EncodeOfDecode := fun w =>
  (Decidable.em (HasDontCareField w)).imp_right encode_decode

/-- Settles O3: the rows cover all words by `row_decode_holds` and are disjoint by `row_decode_of_holds`. -/
theorem matchAndMaskSelect : Obligations.MatchAndMaskSelect := fun w =>
  ⟨wellFormed_decode w, row_decode_holds w, fun _ hwf =>
    ⟨fun h => (row_decode_of_holds hwf h).symm, fun hrow => hrow ▸ row_decode_holds w⟩⟩

/-- Settles O4: each mask equation is `decode_of_and_dontCare` at a canonical word, and the canonical words
are read off for the sixteen registers. -/
theorem dontCareFieldsIgnored : Obligations.DontCareFieldsIgnored := by
  refine ⟨fun w => ?_, by decide⟩
  refine ⟨?_, ?_, ?_, ?_, ?_, ?_, ?_⟩
  all_goals exact fun h => decode_of_and_dontCare h (by decide)

end Sys2Proof

namespace Sys2Proof.Machine

/-! ## Instructions that change `pc` alone (R68) -/

/-- A register written with the value it holds changes nothing but `pc`. -/
theorem State.next_finish_of_eq (s : State) (rd : Reg) {v : Word} (hv : v = s.readReg rd) :
    (.next (s.finish rd v) : Result) = .next { s with pc := s.pc + 1 } := by
  rw [hv, s.finish_readReg_self]
  rfl

/-- A shift by 0 keeps the value (R120). -/
theorem shiftValue_zero (op : ShiftOp) (a : Word) : shiftValue op a 0 = a := by
  cases op <;> simp [shiftValue]

/-- Settles O58: the condition of BNEVER and JNEVER never holds, and each other instruction writes its destination with
the value it holds. -/
theorem encodingsThatDoNothing : Obligations.EncodingsThatDoNothing := by
  refine ⟨fun s rd rs imm8 i hi => ?_, rfl, rfl⟩
  simp only [List.mem_cons, List.not_mem_nil, or_false] at hi
  obtain rfl | rfl | rfl | rfl | rfl | rfl | rfl | rfl | rfl | rfl | rfl | rfl := hi
  · exact congrArg Host.Outcome.next (s.branchIf_does .never imm8)
  · exact congrArg Host.Outcome.next (s.jumpIf_does .never rs)
  · exact s.next_finish_of_eq rd BitVec.or_self
  · exact s.next_finish_of_eq rd BitVec.and_self
  · exact s.next_finish_of_eq rd rfl
  iterate 4 -- the four shifts
    exact s.next_finish_of_eq rd (shiftValue_zero _ _)
  · exact s.next_finish_of_eq rd BitVec.or_zero
  · exact s.next_finish_of_eq rd BitVec.xor_zero
  · exact s.next_finish_of_eq 0 BitVec.or_self

/-! ## Immediates (R62 to R65) and the reserved instructions (R206) -/

/-- Settles O6: each widening is to a larger width. -/
theorem immediatesKeepTheirValue : Obligations.ImmediatesKeepTheirValue :=
  ⟨fun _ => ⟨BitVec.toInt_signExtend_of_le (by decide), BitVec.toNat_setWidth_of_le (by decide)⟩,
   fun _ => BitVec.toInt_signExtend_of_le (by decide),
   fun imm4 => ⟨rfl, shiftAmount_le imm4⟩⟩

/-- Settles O10: each reserved constructor is the one named way to stop. -/
theorem reservedInstructionsFault : Obligations.ReservedInstructionsFault := fun iw s =>
  ⟨illegalInstruction_does s iw, illegalInstruction_does s iw⟩

end Sys2Proof.Machine

/-! SUPPORT. Arithmetic and compare: the word of an instruction from its base and its fields, the values and flags of
the shared operations against the exact sums, differences and products, and the conditions on the flags of a compare. -/

namespace Sys2Proof

/-! ## A word from its base and its fields (R82 and on) -/

/-- Each bit of such a word is one of the base, of the field at bit 8 or of the low field. -/
theorem getLsbD_word {v : Nat} (base : Word) (a : BitVec 4) (b : BitVec v) {i : Nat} (hi : i < 16) :
    (Spec.word base a.toNat b.toNat).getLsbD i =
      (base.getLsbD i || (!decide (i < 8) && a.getLsbD (i - 8)) || b.getLsbD i) := by
  simp [Spec.word, hi]

/-- An RR word is its two selecting fields with the registers put in. -/
theorem encodeFields_eq_word (op a ext c : BitVec 4) :
    encodeFields op a ext c = Spec.word (encodeFields op 0 ext 0) a.toNat c.toNat := by
  apply BitVec.eq_of_getLsbD_eq
  intro i hi
  rw [getLsbD_word _ a c hi, getLsbD_encodeFields, getLsbD_encodeFields]
  split_ifs with hc hext ha
  · simp [show i < 8 by omega]
  · simp [hext, BitVec.getLsbD_of_ge c i (by omega)]
  · simp [hext, BitVec.getLsbD_of_ge c i (by omega)]
  · simp [BitVec.getLsbD_of_ge c i (by omega), BitVec.getLsbD_of_ge a (i - 8) (by omega)]

/-- An RI8 word is its opcode with the register and the immediate put in. -/
theorem encodeImm8_eq_word (op a : BitVec 4) (imm8 : BitVec 8) :
    encodeImm8 op a imm8 = Spec.word (encodeImm8 op 0 0) a.toNat imm8.toNat := by
  apply BitVec.eq_of_getLsbD_eq
  intro i hi
  rw [getLsbD_word _ a imm8 hi, getLsbD_encodeImm8, getLsbD_encodeImm8]
  split_ifs with himm ha
  · simp [himm]
  · simp [himm, BitVec.getLsbD_of_ge imm8 i (by omega)]
  · simp [BitVec.getLsbD_of_ge imm8 i (by omega), BitVec.getLsbD_of_ge a (i - 8) (by omega)]

end Sys2Proof

namespace Sys2Proof.Machine

/-! ## Sums (R81, R82, R84) -/

theorem addValue_eq_ofNat (a b : Word) (k : Bool) :
    addValue a b k = BitVec.ofNat 16 (a.toNat + b.toNat + k.toNat) :=
  BitVec.eq_of_toNat_eq (addValue_toNat a b k)

/-- The carry is the top bit of the 17-bit sum, which is exact. -/
theorem addCarry_eq_decide (a b : Word) (k : Bool) :
    addCarry a b k = decide (65536 ≤ a.toNat + b.toNat + k.toNat) := by
  calc addCarry a b k = (sum17 a b k).msb := (BitVec.msb_eq_getLsbD_last _).symm
    _ = decide (65536 ≤ (sum17 a b k).toNat) := BitVec.msb_eq_decide _
    _ = decide (65536 ≤ a.toNat + b.toNat + k.toNat) := by rw [sum17_toNat]

theorem addOverflow_eq_decide (a b : Word) (k : Bool) :
    addOverflow a b k =
      decide (a.toInt + b.toInt + (k.toNat : Int) > 32767 ∨ a.toInt + b.toInt + (k.toNat : Int) < -32768) := by
  cases k <;> simp [addOverflow]

/-- Without a carry-in, overflow is that the operands have one sign and the sum has the other (R81). -/
theorem addOverflow_eq_msb (a b : Word) :
    addOverflow a b false = (a.msb == b.msb && (a + b).msb != a.msb) := by
  have hdef : addOverflow a b false = a.saddOverflow b := by
    rw [Bool.eq_iff_iff]
    simp only [addOverflow, BitVec.saddOverflow, Bool.false_eq_true, if_false, Bool.or_eq_true, decide_eq_true_iff]
    omega
  exact hdef.trans (BitVec.saddOverflow_eq a b)

/-- An addition is the one of the exact sums. -/
theorem State.addTo_eq_added (s : State) (rd : Reg) (b : Word) (k : Bool) :
    s.addTo rd b k = Spec.added s rd b k.toNat := by
  rw [s.addTo_does, addValue_eq_ofNat, addCarry_eq_decide, addOverflow_eq_decide]
  rfl

/-! ## Differences (R81, R88) -/

theorem subValue_eq_ofInt (a b : Word) : a - b = BitVec.ofInt 16 ((a.toNat : Int) - b.toNat) := by
  apply BitVec.eq_of_toNat_eq
  rw [BitVec.toNat_sub, BitVec.toNat_ofInt]
  omega

/-- Overflow of a difference is that the operands differ in sign and the difference has not the sign of the first. -/
theorem subOverflow_eq_msb (a b : Word) : subOverflow a b = (a.msb != b.msb && (a - b).msb != a.msb) := by
  have hdef : subOverflow a b = a.ssubOverflow b := by
    rw [Bool.eq_iff_iff]
    simp only [subOverflow, BitVec.ssubOverflow, Bool.or_eq_true, decide_eq_true_iff]
    omega
  rw [hdef, BitVec.ssubOverflow_eq]
  cases a.msb <;> cases b.msb <;> simp

/-- A subtraction is the one of the exact difference. -/
theorem State.subFrom_eq_subtracted (s : State) (rd : Reg) (b : Word) :
    s.subFrom rd b = Spec.subtracted s rd b := by
  rw [s.subFrom_does, subOverflow_eq_msb, subValue_eq_ofInt]
  rfl

/-! ## Products (R86, R93) -/

/-- The low half of a product is the same for the signed product. -/
theorem mulValue_eq_ofInt (a b : Word) : mulValue a b = BitVec.ofInt 16 (a.toInt * b.toInt) := by
  rw [mulValue, BitVec.ofNat_mul, BitVec.ofInt_mul]
  simp

/-- The immediate of R62 keeps its sign through the product. -/
theorem mulValue_sextImm8 (a : Word) (imm8 : BitVec 8) :
    mulValue a (sextImm8 imm8) = BitVec.ofInt 16 (a.toInt * imm8.toInt) := by
  rw [mulValue_eq_ofInt, sextImm8, BitVec.toInt_signExtend_of_le (by decide)]

/-! ## Comparisons (R90, R92) -/

/-- A compare is the exact one. -/
theorem State.compareWith_eq_compared (s : State) (rd : Reg) (b : Word) :
    s.compareWith rd b = Spec.compared s rd b := by
  have hz : (s.readReg rd == b) = decide ((s.readReg rd).toNat = b.toNat) :=
    decide_eq_decide.2 BitVec.toNat_inj.symm
  rw [s.compareWith_does, hz]
  rfl

/-- The flags say how `a` compares with `b`: Z equal, N greater signed, L greater unsigned (R92). -/
structure Flags.Compares (fl : Flags) (a b : Word) : Prop where
  z_iff : fl.z = true ↔ a = b
  n_iff : fl.n = true ↔ b.toInt < a.toInt
  l_iff : fl.l = true ↔ b.toNat < a.toNat

theorem State.compareWith_compares (s : State) (rd : Reg) (b : Word) :
    (s.compareWith rd b).flags.Compares (s.readReg rd) b where
  z_iff := beq_iff_eq
  n_iff := decide_eq_true_iff
  l_iff := decide_eq_true_iff

section Conditions

variable {fl : Flags} {a b : Word} (h : fl.Compares a b)
include h

/-- The conditions on N and Z are the signed relations (R142). -/
theorem Flags.Compares.signed :
    (condHolds .lt fl = true ↔ a.toInt < b.toInt) ∧ (condHolds .le fl = true ↔ a.toInt ≤ b.toInt) ∧
    (condHolds .gt fl = true ↔ a.toInt > b.toInt) ∧ (condHolds .ge fl = true ↔ a.toInt ≥ b.toInt) := by
  have hz : fl.z = true ↔ a.toInt = b.toInt := h.z_iff.trans BitVec.toInt_inj.symm
  refine ⟨?_, ?_, h.n_iff, ?_⟩
  all_goals
    simp only [condHolds, Bool.and_eq_true, Bool.or_eq_true, Bool.not_eq_true', ← Bool.not_eq_true, hz, h.n_iff]
    omega

/-- The conditions on L and Z are the unsigned relations (R142). -/
theorem Flags.Compares.unsigned :
    (condHolds .lo fl = true ↔ a.toNat < b.toNat) ∧ (condHolds .ls fl = true ↔ a.toNat ≤ b.toNat) ∧
    (condHolds .hi fl = true ↔ a.toNat > b.toNat) ∧ (condHolds .hs fl = true ↔ a.toNat ≥ b.toNat) := by
  have hz : fl.z = true ↔ a.toNat = b.toNat := h.z_iff.trans BitVec.toNat_inj.symm
  refine ⟨?_, ?_, h.l_iff, ?_⟩
  all_goals
    simp only [condHolds, Bool.and_eq_true, Bool.or_eq_true, Bool.not_eq_true', ← Bool.not_eq_true, hz, h.l_iff]
    omega

theorem Flags.Compares.ne_iff : condHolds .ne fl = true ↔ a ≠ b := by
  rw [condHolds, Bool.not_eq_true', ← Bool.not_eq_true, h.z_iff]

/-- No word is greater than itself (R92). -/
theorem Flags.Compares.not_n_and_z : ¬(fl.n = true ∧ fl.z = true) := fun ⟨hn, hz⟩ =>
  (h.n_iff.1 hn).ne' (congrArg BitVec.toInt (h.z_iff.1 hz))

theorem Flags.Compares.not_l_and_z : ¬(fl.l = true ∧ fl.z = true) := fun ⟨hl, hz⟩ =>
  (h.l_iff.1 hl).ne' (congrArg BitVec.toNat (h.z_iff.1 hz))

end Conditions

/-! ## The statements -/

/-- Settles O20: both forms are one addition without a carry-in. -/
theorem addAndAddi : Obligations.AddAndAddi :=
  ⟨fun rd _ s => ⟨encodeFields_eq_word .., rfl, congrArg Host.Outcome.next (s.addTo_eq_added rd _ false)⟩,
   fun rd _ s => ⟨encodeImm8_eq_word .., rfl, congrArg Host.Outcome.next (s.addTo_eq_added rd _ false)⟩,
   fun s rd b => (addOverflow_eq_decide (s.readReg rd) b false).symm.trans (addOverflow_eq_msb _ b)⟩

/-- Settles O21: both forms are one addition with a carry-in of 1, whatever C is. -/
theorem addcAndAddci : Obligations.AddcAndAddci :=
  ⟨fun rd _ s => ⟨encodeFields_eq_word .., rfl, congrArg Host.Outcome.next (s.addTo_eq_added rd _ true)⟩,
   fun rd _ s => ⟨encodeImm8_eq_word .., rfl, congrArg Host.Outcome.next (s.addTo_eq_added rd _ true)⟩⟩

/-- Settles O22: the value written is `mulValue`, which is the low half of the unsigned product by definition and of
the signed one by `mulValue_eq_ofInt`. -/
theorem mulAndMuli : Obligations.MulAndMuli :=
  ⟨fun rd _ s => ⟨encodeFields_eq_word .., rfl, rfl,
     congrArg (fun v => Host.Outcome.next (Spec.wrote s rd v)) (mulValue_eq_ofInt _ _)⟩,
   fun rd imm8 s => ⟨encodeImm8_eq_word .., rfl,
     congrArg (fun v => Host.Outcome.next (Spec.wrote s rd v)) (mulValue_sextImm8 _ imm8)⟩⟩

/-- Settles O23: both forms are one subtraction. -/
theorem subAndSubi : Obligations.SubAndSubi :=
  ⟨fun rd _ s => ⟨encodeFields_eq_word .., rfl, congrArg Host.Outcome.next (s.subFrom_eq_subtracted rd _)⟩,
   fun rd _ s => ⟨encodeImm8_eq_word .., rfl, congrArg Host.Outcome.next (s.subFrom_eq_subtracted rd _)⟩⟩

/-- Settles O24: both forms are one compare. -/
theorem cmpAndCmpi : Obligations.CmpAndCmpi :=
  ⟨fun rd _ s => ⟨encodeFields_eq_word .., rfl, congrArg Host.Outcome.next (s.compareWith_eq_compared rd _)⟩,
   fun rd _ s => ⟨encodeImm8_eq_word .., rfl, congrArg Host.Outcome.next (s.compareWith_eq_compared rd _)⟩⟩

/-- The flags that either form of compare leaves compare its two operands. -/
theorem compares_of_exec {s t : State} {a b : Word}
    (h : (∃ rd rs, a = s.readReg rd ∧ b = s.readReg rs ∧ exec (.cmp rd rs) s = .next t) ∨
      (∃ rd imm8, a = s.readReg rd ∧ b = BitVec.ofInt 16 imm8.toInt ∧ exec (.cmpi rd imm8) s = .next t)) :
    t.flags.Compares a b := by
  obtain ⟨rd, rs, rfl, rfl, hexec⟩ | ⟨rd, imm8, rfl, rfl, hexec⟩ := h
  · obtain rfl := next_injective hexec
    exact s.compareWith_compares rd _
  · obtain rfl := next_injective hexec
    exact s.compareWith_compares rd _

/-- Settles O25: each condition is read from flags that compare the two operands. -/
theorem compareMeansItsConditions : Obligations.CompareMeansItsConditions := by
  intro s t a b hcompare
  have h := compares_of_exec hcompare
  obtain ⟨hlt, hle, hgt, hge⟩ := h.signed
  obtain ⟨hlo, hls, hhi, hhs⟩ := h.unsigned
  exact ⟨h.z_iff, h.ne_iff, hlt, hle, hgt, hge, hlo, hls, hhi, hhs, h.not_n_and_z, h.not_l_and_z⟩

end Sys2Proof.Machine

/-! SUPPORT. Logic: the operators on a word taken as its two bytes, one of them from an immediate. -/

namespace Sys2Proof.Machine

/-! ## A word as its two bytes -/

/-- A zero-extended immediate is the low byte under a zero upper byte (R63). -/
theorem zextImm8_eq_append (imm8 : BitVec 8) : zextImm8 imm8 = 0x00#8 ++ imm8 :=
  BitVec.setWidth_eq_append (by decide)

/-- A word is its upper byte followed by its lower byte. -/
theorem word_eq_bytes (a : Word) : a = a.extractLsb' 8 8 ++ a.extractLsb' 0 8 :=
  (BitVec.extractLsb'_append_extractLsb' (w := 8) (len := 8)).symm

/-! ## The operators with a zero-extended immediate, byte by byte -/

/-- `!` acts on each bit, so the upper byte of the immediate becomes 0xFF (R102, D8). -/
theorem notValue_zextImm8 (imm8 : BitVec 8) : notValue notMode (zextImm8 imm8) = 0xFF#8 ++ ~~~imm8 := by
  calc notValue notMode (zextImm8 imm8) = ~~~(0x00#8 ++ imm8) := congrArg (~~~·) (zextImm8_eq_append imm8)
    _ = ~~~0x00#8 ++ ~~~imm8 := BitVec.not_append

/-- ANDI clears the upper byte (R104). -/
theorem and_zextImm8 (a : Word) (imm8 : BitVec 8) :
    a &&& zextImm8 imm8 = 0x00#8 ++ (a.extractLsb' 0 8 &&& imm8) := by
  conv_lhs => rw [word_eq_bytes a, zextImm8_eq_append, BitVec.and_append, BitVec.and_zero]

/-- ORI keeps the upper byte (R106). -/
theorem or_zextImm8 (a : Word) (imm8 : BitVec 8) :
    a ||| zextImm8 imm8 = a.extractLsb' 8 8 ++ (a.extractLsb' 0 8 ||| imm8) := by
  conv_lhs => rw [word_eq_bytes a, zextImm8_eq_append, BitVec.or_append, BitVec.or_zero]

/-- XORI keeps the upper byte (R108). -/
theorem xor_zextImm8 (a : Word) (imm8 : BitVec 8) :
    a ^^^ zextImm8 imm8 = a.extractLsb' 8 8 ++ (a.extractLsb' 0 8 ^^^ imm8) := by
  conv_lhs => rw [word_eq_bytes a, zextImm8_eq_append, BitVec.xor_append, BitVec.xor_zero]

/-! ## The statements -/

/-- An instruction that ends by writing `v` to `rd` leaves the state `Spec.wrote` names, for any other form of `v`. -/
theorem State.next_finish_eq_wrote (s : State) (rd : Reg) {v u : Word} (h : v = u) :
    (.next (s.finish rd v) : Result) = .next (Spec.wrote s rd u) := by
  rw [h, s.finish_does]
  rfl

/-- Settles O26: `!` is the bitwise complement by the chosen mode, and of an immediate by `notValue_zextImm8`. -/
theorem notAndNoti : Obligations.NotAndNoti :=
  ⟨fun rd _ s => ⟨encodeFields_eq_word .., rfl, s.next_finish_eq_wrote rd rfl⟩,
   fun rd imm8 s => ⟨encodeImm8_eq_word .., rfl, s.next_finish_eq_wrote rd (notValue_zextImm8 imm8)⟩⟩

/-- Settles O27: the result of ANDI is `and_zextImm8`. -/
theorem andAndAndi : Obligations.AndAndAndi :=
  ⟨fun rd _ s => ⟨encodeFields_eq_word .., rfl, s.next_finish_eq_wrote rd rfl⟩,
   fun rd imm8 s => ⟨encodeImm8_eq_word .., rfl, s.next_finish_eq_wrote rd (and_zextImm8 _ imm8)⟩⟩

/-- Settles O28: the result of ORI is `or_zextImm8`. -/
theorem orAndOri : Obligations.OrAndOri :=
  ⟨fun rd _ s => ⟨encodeFields_eq_word .., rfl, s.next_finish_eq_wrote rd rfl⟩,
   fun rd imm8 s => ⟨encodeImm8_eq_word .., rfl, s.next_finish_eq_wrote rd (or_zextImm8 _ imm8)⟩⟩

/-- Settles O29: the result of XORI is `xor_zextImm8`, and a word differs from itself in no bit. -/
theorem xorAndXori : Obligations.XorAndXori :=
  ⟨fun rd _ s => ⟨encodeFields_eq_word .., rfl, s.next_finish_eq_wrote rd rfl,
     s.next_finish_eq_wrote rd BitVec.xor_self⟩,
   fun rd imm8 s => ⟨encodeImm8_eq_word .., rfl, s.next_finish_eq_wrote rd (xor_zextImm8 _ imm8)⟩⟩

end Sys2Proof.Machine

/-! SUPPORT. Shifts: the operators in the arithmetic of R110, and one rule for the register forms and one for the
immediate forms. -/

namespace Sys2Proof

/-- Well-formed instructions with one word are one instruction, since the decoder reads each back. -/
theorem encode_injective {i j : Instr} (hi : i.wellFormed = true) (hj : j.wellFormed = true)
    (h : encode i = encode j) : i = j := by
  calc i = decode (encode i) := (decode_encode hi).symm
    _ = decode (encode j) := congrArg decode h
    _ = j := decode_encode hj

end Sys2Proof

namespace Sys2Proof.Machine

/-! ## The value of a shift (R110) -/

/-- Moving bits up is a product modulo 2^16, moving them down a quotient, of the unsigned or of the signed value. -/
theorem shiftValue_eq_shifted (op : ShiftOp) (a : Word) (n : Nat) : shiftValue op a n = Spec.shifted op a n := by
  have hleft : a <<< n = BitVec.ofNat 16 (a.toNat * 2 ^ n) :=
    BitVec.eq_of_toNat_eq (by rw [BitVec.toNat_shiftLeft, Nat.shiftLeft_eq, BitVec.toNat_ofNat])
  cases op with
  | logicalLeft => exact hleft
  | logicalRight =>
    calc a >>> n = BitVec.ofNat 16 (a >>> n).toNat := by rw [BitVec.ofNat_toNat, BitVec.setWidth_eq]
      _ = BitVec.ofNat 16 (a.toNat / 2 ^ n) := by rw [BitVec.toNat_ushiftRight, Nat.shiftRight_eq_div_pow]
  | arithLeft => exact hleft
  | arithRight =>
    calc a.sshiftRight n = BitVec.ofInt 16 (a.toInt >>> n) := rfl
      _ = BitVec.ofInt 16 (a.toInt / 2 ^ n) := by rw [Int.shiftRight_eq_div_pow, Nat.cast_pow, Nat.cast_ofNat]

/-- The arithmetic left shift fills with zeros as the logical one does (R121, D14). -/
theorem shiftValue_arithLeft (a : Word) (n : Nat) : shiftValue .arithLeft a n = shiftValue .logicalLeft a n := rfl

/-! ## The immediate forms -/

theorem State.next_shiftByImm_eq_wrote (s : State) (op : ShiftOp) (rd : Reg) (imm4 : BitVec 4) :
    (.next (s.shiftByImm op rd imm4) : Result) =
      .next (Spec.wrote s rd (Spec.shifted op (s.readReg rd) imm4.toNat)) :=
  s.next_finish_eq_wrote rd (shiftValue_eq_shifted op _ _)

theorem State.next_shiftByImm_zero (s : State) (op : ShiftOp) (rd : Reg) :
    (.next (s.shiftByImm op rd 0) : Result) = .next { s with pc := s.pc + 1 } :=
  s.next_finish_of_eq rd (shiftValue_zero op _)

/-! ## The register forms (R111) -/

theorem State.shiftByReg_of_le {s : State} {rs : Reg} (h : (s.readReg rs).toNat ≤ 15) (op : ShiftOp) (rd : Reg) :
    s.shiftByReg op rd rs = s.finish rd (shiftValue op (s.readReg rd) (s.readReg rs).toNat) := by
  rw [s.shiftByReg_does, if_pos h, s.finish_does]

theorem State.shiftByReg_of_gt {s : State} {rs : Reg} (h : 15 < (s.readReg rs).toNat) (op : ShiftOp) (rd : Reg) :
    s.shiftByReg op rd rs =
      { Spec.wrote s rd (s.drawnShift op (s.readReg rd) (s.readReg rs)) with draws := s.draws + 1 } := by
  rw [s.shiftByReg_does, if_neg (Nat.not_le.2 h)]
  rfl

/-- An instruction that runs as `State.shiftByReg` is a register shift in both ranges of the amount. -/
theorem regShift_of_exec {i : Instr} {op : ShiftOp} {rd rs : Reg} {s : State}
    (hexec : exec i s = .next (s.shiftByReg op rd rs)) : Spec.RegShift i op rd rs s := by
  constructor
  · intro hle
    rw [hexec, State.shiftByReg_of_le hle]
    exact s.next_finish_eq_wrote rd (shiftValue_eq_shifted op _ _)
  · intro hgt
    exact ⟨_, hexec.trans (congrArg Host.Outcome.next (State.shiftByReg_of_gt hgt op rd))⟩

/-- The amount 0 is in range (R120). -/
theorem State.next_shiftByReg_of_eq_zero {s : State} {rs : Reg} (h : s.readReg rs = 0) (op : ShiftOp) (rd : Reg) :
    (.next (s.shiftByReg op rd rs) : Result) = .next { s with pc := s.pc + 1 } := by
  have hn : (s.readReg rs).toNat = 0 := congrArg BitVec.toNat h
  rw [State.shiftByReg_of_le (hn.trans_le (Nat.zero_le 15)), hn]
  exact s.next_finish_of_eq rd (shiftValue_zero op _)

/-! ## The statements -/

/-- Settles O30: each of the four is `State.shiftByImm` with its operator. -/
theorem immediateShifts : Obligations.ImmediateShifts := fun rd imm4 s =>
  ⟨⟨encodeFields_eq_word .., rfl, s.next_shiftByImm_eq_wrote .logicalLeft rd imm4⟩,
   ⟨encodeFields_eq_word .., rfl, s.next_shiftByImm_eq_wrote .logicalRight rd imm4⟩,
   ⟨encodeFields_eq_word .., rfl, s.next_shiftByImm_eq_wrote .arithLeft rd imm4⟩,
   ⟨encodeFields_eq_word .., rfl, s.next_shiftByImm_eq_wrote .arithRight rd imm4⟩⟩

/-- Settles O31: each of the four is `State.shiftByReg` with its operator. -/
theorem registerShifts : Obligations.RegisterShifts := fun _ _ _ =>
  ⟨⟨encodeFields_eq_word .., rfl, regShift_of_exec rfl⟩,
   ⟨encodeFields_eq_word .., rfl, regShift_of_exec rfl⟩,
   ⟨encodeFields_eq_word .., rfl, regShift_of_exec rfl⟩,
   ⟨encodeFields_eq_word .., rfl, regShift_of_exec rfl⟩⟩

/-- Settles O32: in range both forms write `shiftValue`, where the two left operators agree, and a common word would
decode to both instructions. -/
theorem arithmeticLeftIsLogicalLeft : Obligations.ArithmeticLeftIsLogicalLeft := by
  refine ⟨fun rd rs s hle => congrArg Host.Outcome.next ?_, fun rd imm4 s => congrArg Host.Outcome.next ?_, ?_, ?_⟩
  · rw [State.shiftByReg_of_le hle, State.shiftByReg_of_le hle, shiftValue_arithLeft]
  · exact congrArg (s.finish rd) (shiftValue_arithLeft _ _)
  · exact fun _ _ _ _ h => nomatch encode_injective rfl rfl h
  · exact fun _ _ _ _ h => nomatch encode_injective rfl rfl h

/-- Settles O33: whatever the operator, the value written is the one the destination holds. -/
theorem shiftByZeroKeepsTheValue : Obligations.ShiftByZeroKeepsTheValue := fun rd _ s =>
  ⟨fun h => ⟨State.next_shiftByReg_of_eq_zero h .logicalLeft rd, State.next_shiftByReg_of_eq_zero h .logicalRight rd,
     State.next_shiftByReg_of_eq_zero h .arithLeft rd, State.next_shiftByReg_of_eq_zero h .arithRight rd⟩,
   s.next_shiftByImm_zero .logicalLeft rd, s.next_shiftByImm_zero .logicalRight rd,
   s.next_shiftByImm_zero .arithLeft rd, s.next_shiftByImm_zero .arithRight rd⟩

end Sys2Proof.Machine

/-! SUPPORT. Moves: the value of a move of one byte in the numbers of R132 and R133, and sequences of moves to one
register. -/

namespace Sys2Proof.Machine

/-! ## One byte replaced, the other kept (R132, R133, D15) -/

/-- Two bytes side by side are the number with these two digits in base 256. -/
theorem append_bytes_eq_ofNat (upper lower : BitVec 8) :
    upper ++ lower = BitVec.ofNat 16 (upper.toNat * 256 + lower.toNat) := by
  have happend : (upper ++ lower).toNat = upper.toNat * 256 + lower.toNat := by
    rw [BitVec.toNat_append, ← Nat.shiftLeft_add_eq_or_of_lt lower.isLt, Nat.shiftLeft_eq]
  rw [← happend, BitVec.ofNat_toNat, BitVec.setWidth_eq]

theorem lowByteValue_eq_ofNat (old : Word) (imm8 : BitVec 8) :
    lowByteValue moviMode old imm8 = BitVec.ofNat 16 (old.toNat / 256 * 256 + imm8.toNat) := by
  have hupper : (old.extractLsb' 8 8).toNat = old.toNat / 256 := by
    rw [BitVec.extractLsb'_toNat, Nat.shiftRight_eq_div_pow]
    omega
  rw [← hupper, ← append_bytes_eq_ofNat]
  rfl

theorem highByteValue_eq_ofNat (old : Word) (imm8 : BitVec 8) :
    highByteValue moviMode old imm8 = BitVec.ofNat 16 (imm8.toNat * 256 + old.toNat % 256) := by
  have hlower : (old.extractLsb' 0 8).toNat = old.toNat % 256 := BitVec.extractLsb'_toNat 0 8 old
  rw [← hlower, ← append_bytes_eq_ofNat]
  rfl

/-! ## Both bytes replaced, in the three orders of R133 -/

/-- MOVIL, then MOVIU: what the second keeps is the byte the first has put in. -/
theorem highByteValue_lowByteValue (old : Word) (upper lower : BitVec 8) :
    highByteValue moviMode (lowByteValue moviMode old lower) upper = upper ++ lower :=
  congrArg (upper ++ ·) BitVec.extractLsb'_append_eq_right

/-- MOVIU, then MOVIL. -/
theorem lowByteValue_highByteValue (old : Word) (upper lower : BitVec 8) :
    lowByteValue moviMode (highByteValue moviMode old upper) lower = upper ++ lower :=
  congrArg (· ++ lower) BitVec.extractLsb'_append_eq_left

/-- ANDI with 0, MOVIU, then ORI: the low byte is cleared, kept, and filled. -/
theorem highByteValue_cleared_or_zextImm8 (old : Word) (upper lower : BitVec 8) :
    highByteValue moviMode (old &&& zextImm8 0) upper ||| zextImm8 lower = upper ++ lower := by
  have hcleared : old &&& zextImm8 0 = 0#16 := BitVec.and_zero
  calc highByteValue moviMode (old &&& zextImm8 0) upper ||| zextImm8 lower
      = (upper ++ 0#8) ||| zextImm8 lower := by rw [hcleared]; rfl
    _ = (upper ++ 0#8) ||| (0#8 ++ lower) := by rw [zextImm8_eq_append]
    _ = upper ++ lower := by rw [BitVec.or_append, BitVec.or_zero, BitVec.zero_or]

/-! ## Several writes to one register -/

theorem State.readReg_finish_self (s : State) (rd : Reg) (v : Word) : (s.finish rd v).readReg rd = v := by
  rw [State.readReg_finish, if_pos rfl]

/-- Of results written to one register one after the other only the last stays, and `pc` counts them (R15). -/
theorem State.finish_finish (s : State) (rd : Reg) (v u : Word) :
    (s.finish rd v).finish rd u = { s with regs := s.regs.set rd u, pc := s.pc + 2 } := by
  rw [State.finish_does, State.finish_regs, Vector.set_set, State.finish_pc, BitVec.add_assoc]
  rfl

theorem State.finish_finish_finish (s : State) (rd : Reg) (v u w : Word) :
    ((s.finish rd v).finish rd u).finish rd w = { s with regs := s.regs.set rd w, pc := s.pc + 3 } := by
  rw [State.finish_finish, State.finish_regs, Vector.set_set, State.finish_pc, BitVec.add_assoc]
  rfl

/-! ## The statements -/

/-- Settles O34: MOV writes the source as it is, the other two `lowByteValue` and `highByteValue`. -/
theorem movMovilMoviu : Obligations.MovMovilMoviu :=
  ⟨fun rd _ s => ⟨encodeFields_eq_word .., rfl, s.next_finish_eq_wrote rd rfl⟩,
   fun rd imm8 s =>
    ⟨⟨encodeImm8_eq_word .., rfl, s.next_finish_eq_wrote rd (lowByteValue_eq_ofNat _ imm8)⟩,
     ⟨encodeImm8_eq_word .., rfl, s.next_finish_eq_wrote rd (highByteValue_eq_ofNat _ imm8)⟩⟩⟩

/-- Settles O35: in each sequence the last value written is the constant's two bytes side by side, and the values
written before it are gone. -/
theorem constantIsLoaded : Obligations.ConstantIsLoaded := by
  intro k rd s
  have hk : k.extractLsb' 8 8 ++ k.extractLsb' 0 8 = k := (word_eq_bytes k).symm
  refine ⟨⟨_, _, rfl, rfl, ?_⟩, ⟨_, _, rfl, rfl, ?_⟩, _, _, _, rfl, rfl, rfl, ?_⟩
  · rw [State.readReg_finish_self, highByteValue_lowByteValue, hk, State.finish_finish]
  · rw [State.readReg_finish_self, lowByteValue_highByteValue, hk, State.finish_finish]
  · rw [State.readReg_finish_self, State.readReg_finish_self, highByteValue_cleared_or_zextImm8, hk,
      State.finish_finish_finish]

end Sys2Proof.Machine

/-! SUPPORT. Control transfer: the words of CALLD and of J, the complementary conditions, the target of a relative
transfer as an exact sum, and what a call leaves for the return that comes back from it. -/

namespace Sys2Proof

/-- A D12 word is its opcode with the immediate put in. -/
theorem encodeImm12_eq_or (op : BitVec 4) (imm12 : BitVec 12) :
    encodeImm12 op imm12 = encodeImm12 op 0 ||| BitVec.ofNat 16 imm12.toNat := by
  apply BitVec.eq_of_getLsbD_eq
  intro i hi
  rw [BitVec.getLsbD_or, getLsbD_encodeImm12, getLsbD_encodeImm12]
  split_ifs with himm
  · simp [hi]
  · simp [BitVec.getLsbD_of_ge imm12 i (by omega)]

/-- The words with `op` = 1111 and `ext` = 0010 are the jumps on the condition in bits 11 to 8 (R57). -/
theorem decode_of_op_ext_jump {w : Word} (hop : nibble w 12 = 15) (hext : nibble w 4 = 2) :
    decode w = .jump (Cond.ofCode (nibble w 8)) (nibble w 0) := by
  simp only [decode_of_op_ones hop, decodeSpecialGroup, hext]

end Sys2Proof

namespace Sys2Proof.Machine

/-! ## Conditions (R141, R142) -/

/-- The pairs of R142: in no flag state do both hold or both fail. -/
theorem condHolds_complementary {c d : Cond}
    (h : (c, d) ∈ [(Cond.eq, Cond.ne), (.cs, .cc), (.fs, .fc), (.lt, .ge), (.le, .gt), (.lo, .hs), (.ls, .hi),
      (.uc, .never)]) (fl : Flags) : condHolds d fl = !condHolds c fl := by
  simp only [List.mem_cons, List.not_mem_nil, or_false, Prod.mk.injEq] at h
  obtain ⟨rfl, rfl⟩ | ⟨rfl, rfl⟩ | ⟨rfl, rfl⟩ | ⟨rfl, rfl⟩ | ⟨rfl, rfl⟩ | ⟨rfl, rfl⟩ | ⟨rfl, rfl⟩ | ⟨rfl, rfl⟩ := h
  all_goals simp only [condHolds, Bool.not_not, Bool.not_and, Bool.not_true]

/-! ## J and B (R143, R144) -/

theorem clockCycles_jump (c : Cond) (rs : Reg) (fl : Flags) :
    clockCycles (.jump c rs) fl = some (jumpCycles c fl) := by
  cases c <;> rfl

theorem clockCycles_branch (c : Cond) (imm8 : BitVec 8) (fl : Flags) :
    clockCycles (.branch c imm8) fl = some (branchCycles c fl) := by
  cases c <;> rfl

theorem exec_jump_of_condHolds {c : Cond} {s : State} (h : condHolds c s.flags = true) (rs : Reg) :
    exec (.jump c rs) s = .next { s with pc := s.readReg rs } := by
  rw [exec_jump, s.jumpIf_does, if_pos h]

theorem exec_jump_of_not_condHolds {c : Cond} {s : State} (h : condHolds c s.flags = false) (rs : Reg) :
    exec (.jump c rs) s = .next { s with pc := s.pc + 1 } := by
  rw [exec_jump, s.jumpIf_does, if_neg (Bool.eq_false_iff.1 h)]

theorem State.nextPc_eq_ofNat (s : State) : s.nextPc = BitVec.ofNat 16 (s.pc.toNat + 1) := by
  rw [BitVec.ofNat_add, BitVec.ofNat_toNat, BitVec.setWidth_eq]
  rfl

/-- The target of a relative transfer is the exact sum modulo 2^16, whatever the width of the displacement (D16). -/
theorem State.relative_signExtend (s : State) {v : Nat} (imm : BitVec v) :
    s.relative (imm.signExtend 16) = BitVec.ofInt 16 (s.pc.toNat + 1 + imm.toInt) := by
  rw [BitVec.ofInt_add, BitVec.ofInt_add, BitVec.ofInt_natCast, BitVec.ofNat_toNat, BitVec.setWidth_eq]
  rfl

/-- A displacement in range loses nothing in its eight bits (R71). -/
theorem sextImm8_ofInt {d : Int} (hlo : -128 ≤ d) (hhi : d ≤ 127) : sextImm8 (BitVec.ofInt 8 d) = BitVec.ofInt 16 d := by
  have hd : (BitVec.ofInt 8 d).toInt = d := BitVec.toInt_ofInt_eq_self (by decide) hlo (by omega)
  rw [sextImm8, BitVec.signExtend, hd]

/-! ## Calls and returns (R146, R147, R148, R152) -/

/-- What is pushed is `A + 1`, at the old `rsp`, and no other word, register or flag is touched (D18, D19). -/
theorem called_of_exec {i : Instr} {s : State} {target : Word} (h : exec i s = .next (s.callTo target)) :
    Spec.Called i s target := by
  refine ⟨s.callTo target, h, fun b => ?_, ?_, rfl, fun r hr => ?_, rfl, rfl, rfl⟩
  · rw [State.callTo, State.readMain_setPc, State.readMain_push, State.nextPc_eq]
  · rw [State.callTo, State.readReg_setPc, State.readReg_push, if_pos rfl]
  · rw [State.callTo, State.readReg_setPc, State.readReg_push, if_neg (mt List.mem_singleton.2 hr)]

theorem exec_ret (s : State) :
    exec .ret s = .next { s with regs := s.regs.set Reg.rsp (s.readReg Reg.rsp + 1),
                                 pc := s.readMain (s.readReg Reg.rsp + 1) } := rfl

theorem exec_call (rs : Reg) (s : State) : exec (.call rs) s = .next (s.callTo (s.readReg rs)) := rfl

theorem exec_calld (imm12 : BitVec 12) (s : State) :
    exec (.calld imm12) s = .next (s.callTo (BitVec.ofInt 16 (s.pc.toNat + 1 + imm12.toInt))) :=
  congrArg (fun target => Host.Outcome.next (s.callTo target)) (s.relative_signExtend imm12)

/-- The pop of a return undoes the push of the call: incremented, `rsp` is the call's old one again (R172). -/
theorem ret_of_called {i : Instr} {s t u : State} {target : Word} (hcalled : Spec.Called i s target)
    (hexec : exec i s = .next t) (hrsp : u.readReg Reg.rsp = t.readReg Reg.rsp)
    (hword : u.readMain (s.readReg Reg.rsp) = t.readMain (s.readReg Reg.rsp)) :
    ∃ v, exec .ret u = .next v ∧ v.pc = s.pc + 1 ∧ v.readReg Reg.rsp = s.readReg Reg.rsp := by
  obtain ⟨t', hexec', hstored, hlower, -, -⟩ := hcalled
  obtain rfl : t' = t := next_injective (hexec'.symm.trans hexec)
  have hback : u.readReg Reg.rsp + 1 = s.readReg Reg.rsp := by rw [hrsp, hlower, BitVec.sub_add_cancel]
  refine ⟨u.popped.setPc u.popWord, rfl, ?_, ?_⟩
  · rw [State.setPc_pc, State.popWord_eq, hback, hword, hstored, if_pos rfl]
  · rw [State.readReg_setPc, State.readReg_popped, if_pos rfl, hback]

/-! ## The statements -/

/-- Settles O36: each predicate is the Boolean expression `condHolds` computes, and each mask fixes the fields by which
the decoder selects the group. -/
theorem conditionTable : Obligations.ConditionTable := by
  refine ⟨fun fl => ?_, fun w => ⟨fun h => ?_, fun h => ?_⟩⟩
  · simp only [Cond.ofCode, condHolds, Bool.decide_and, Bool.decide_or, Bool.decide_eq_true, Bool.decide_eq_false,
      and_self]
  · exact decode_of_op_branch (nibble_of_and 12 h rfl)
  · exact decode_of_op_ext_jump (nibble_of_and 12 h rfl) (nibble_of_and 4 h rfl)

/-- Settles O37: the sixteen variants are one jump, which `State.jumpIf_does` writes out. -/
theorem jumpOnCondition : Obligations.JumpOnCondition := fun c rs s =>
  ⟨(encode_jump c rs).trans (encodeFields_eq_word ..), clockCycles_jump c rs s.flags,
   (exec_jump c rs s).trans (congrArg Host.Outcome.next (s.jumpIf_does c rs))⟩

/-- Settles O38: the sixteen variants are one branch, and its target is the exact sum. -/
theorem branchOnCondition : Obligations.BranchOnCondition := by
  intro c imm8 s
  refine ⟨(encode_branch c imm8).trans (encodeImm8_eq_word ..), clockCycles_branch c imm8 s.flags, ?_⟩
  rw [exec_branch, s.branchIf_does, ← s.relative_signExtend imm8]
  rfl

/-- Settles O39: the displacement keeps its value through the eight bits, and adding it to `A + 1` gives the target. -/
theorem displacementReachesTarget : Obligations.DisplacementReachesTarget := by
  intro c s target d hc hlo hhi hd
  have htarget : s.pc + 1 + sextImm8 (BitVec.ofInt 8 d) = target := by
    rw [sextImm8_ofInt hlo hhi, ← hd, BitVec.ofInt_toInt, BitVec.sub_sub, add_comm (s.pc + 1), BitVec.sub_add_cancel]
  rw [exec_branch, s.branchIf_does, if_pos hc, htarget]

/-- Settles O40: the second condition of a pair holds exactly where the first does not. -/
theorem complementaryConditions : Obligations.ComplementaryConditions := by
  intro c d rs s hpair
  have hd := condHolds_complementary hpair s.flags
  cases hc : condHolds c s.flags with
  | true =>
    rw [hc] at hd
    exact .inl ⟨exec_jump_of_condHolds hc rs, exec_jump_of_not_condHolds hd rs⟩
  | false =>
    rw [hc] at hd
    exact .inr ⟨exec_jump_of_not_condHolds hc rs, exec_jump_of_condHolds hd rs⟩

/-- Settles O41: both are `State.callTo`, with the target found before `rsp` changes. -/
theorem callAndCalld : Obligations.CallAndCalld :=
  ⟨fun rs s => ⟨encodeFields_eq_word .., rfl, called_of_exec (exec_call rs s)⟩,
   fun imm12 s => ⟨encodeImm12_eq_or _ imm12, rfl, called_of_exec (exec_calld imm12 s)⟩⟩

/-- Settles O43: both calls are `Called`, and the return pops what it says was pushed. -/
theorem returnComesBack : Obligations.ReturnComesBack := by
  rintro s t u (⟨rs, hcall⟩ | ⟨imm12, hcalld⟩) hrsp hword
  · exact ret_of_called (called_of_exec (exec_call rs s)) hcall hrsp hword
  · exact ret_of_called (called_of_exec (exec_calld imm12 s)) hcalld hrsp hword

/-- Settles O42: a pop whose word goes to `pc`. -/
theorem retPopsIntoPc : Obligations.RetPopsIntoPc := fun s => ⟨rfl, rfl, exec_ret s⟩

/-- Settles O44: the value written is the address of the next word. -/
theorem lpcReadsNextAddress : Obligations.LpcReadsNextAddress := fun rd s =>
  ⟨encodeFields_eq_word .., rfl, s.next_finish_eq_wrote rd s.nextPc_eq_ofNat⟩

end Sys2Proof.Machine

/-! SUPPORT. Saving and restoring the flags: the word that holds them, bit by bit and as a sum, and the flags that a
word holds. -/

namespace Sys2Proof.Machine

/-! ## The flags in a word (R18, D9) -/

/-- Each flag has a bit of its own, so that the five do not disturb each other. -/
theorem Flags.toWord_getLsbD_flagBit (fl : Flags) (name : FlagName) :
    fl.toWord.getLsbD (flagBit name) = fl.get name := by
  simp only [Flags.toWord, BitVec.getLsbD_or, flagWord_getLsbD]
  cases name <;> simp [flagBit, Flags.get]

theorem Flags.ofWord_toWord (fl : Flags) : Flags.ofWord fl.toWord = fl := by
  simp only [Flags.ofWord, Flags.toWord_getLsbD_flagBit, Flags.get]

/-- Putting a flag into a bit that is free is an addition. -/
theorem or_flagWord {w : Word} {name : FlagName} (hfree : w.getLsbD (flagBit name) = false) (b : Bool) :
    w ||| flagWord name b = w + flagWord name b := by
  refine (BitVec.add_eq_or_of_and_eq_zero _ _ ?_).symm
  apply BitVec.eq_of_getLsbD_eq
  intro i _
  rw [BitVec.getLsbD_and, flagWord_getLsbD, BitVec.getLsbD_zero]
  by_cases hi : i = flagBit name
  · rw [hi, hfree, Bool.false_and]
  · simp [hi]

theorem flagWord_eq_ofNat (name : FlagName) (b : Bool) :
    flagWord name b = BitVec.ofNat 16 (2 ^ flagBit name * b.toNat) := by
  cases name <;> cases b <;> rfl

theorem Flags.toWord_eq_ofNat (fl : Flags) :
    fl.toWord =
      BitVec.ofNat 16 (16 * fl.n.toNat + 8 * fl.z.toNat + 4 * fl.f.toNat + 2 * fl.l.toNat + fl.c.toNat) := by
  have hsum : fl.toWord =
      flagWord .n fl.n + flagWord .z fl.z + flagWord .f fl.f + flagWord .l fl.l + flagWord .c fl.c := by
    rw [Flags.toWord, or_flagWord, or_flagWord, or_flagWord, or_flagWord]
    all_goals
      simp only [BitVec.getLsbD_or, flagWord_getLsbD]
      rfl
  rw [hsum]
  simp only [flagWord_eq_ofNat, ← BitVec.ofNat_add, flagBit, pow_zero, one_mul]
  rfl

/-- A bit of a word is a binary digit of its number. -/
theorem getLsbD_eq_decide (v : Word) (i : Nat) : v.getLsbD i = decide (v.toNat / 2 ^ i % 2 = 1) :=
  Nat.testBit_eq_decide_div_mod_eq

theorem Flags.ofWord_eq_digits (v : Word) :
    Flags.ofWord v =
      { c := decide (v.toNat % 2 = 1), l := decide (v.toNat / 2 % 2 = 1), f := decide (v.toNat / 4 % 2 = 1),
        z := decide (v.toNat / 8 % 2 = 1), n := decide (v.toNat / 16 % 2 = 1) } := by
  simp only [Flags.ofWord, getLsbD_eq_decide, flagBit, pow_zero, Nat.div_one]
  rfl

/-! ## LSF and SSF (R160, R161) -/

theorem exec_lsf (rd : Reg) (s : State) : exec (.lsf rd) s = .next (s.finish rd s.flags.toWord) := rfl

theorem exec_ssf (rs : Reg) (s : State) :
    exec (.ssf rs) s = .next { s with pc := s.pc + 1, flags := Flags.ofWord (s.readReg rs) } := rfl

/-! ## The statements -/

/-- Settles O45: the five flags one beside the other are the number with them as binary digits. -/
theorem lsfReadsFlags : Obligations.LsfReadsFlags := fun rd s =>
  ⟨encodeFields_eq_word .., rfl, s.next_finish_eq_wrote rd s.flags.toWord_eq_ofNat⟩

/-- Settles O46: each flag is taken from its bit, whatever it was before. -/
theorem ssfWritesFlags : Obligations.SsfWritesFlags := by
  intro rs s
  refine ⟨encodeFields_eq_word .., rfl, ?_⟩
  rw [exec_ssf, Flags.ofWord_eq_digits]

/-- Settles O47: the register holds the flags of `s` as a word, and a word gives back the flags put into it. -/
theorem flagsSavedAndRestored : Obligations.FlagsSavedAndRestored := by
  intro rd rs s t u hlsf hkept
  obtain rfl : s.finish rd s.flags.toWord = t := next_injective ((exec_lsf rd s).symm.trans hlsf)
  refine ⟨_, exec_ssf rs u, ?_⟩
  calc Flags.ofWord (u.readReg rs) = Flags.ofWord s.flags.toWord := by rw [hkept, State.readReg_finish_self]
    _ = s.flags := s.flags.ofWord_toWord

end Sys2Proof.Machine

/-! SUPPORT. The stack and memory instructions: what a push leaves in the stack's word and in the registers, what a pop
takes from them, and what is stored, loaded and presented. -/

namespace Sys2Proof.Machine

/-! ## PUSH and POP (R170, R171) -/

theorem exec_push (rs : Reg) (s : State) : exec (.push rs) s = .next (s.push (s.readReg rs)).advance := rfl

theorem exec_pop (rd : Reg) (s : State) : exec (.pop rd) s = .next (s.popped.finish rd s.popWord) := rfl

theorem State.oneWordStored_push (s : State) (v : Word) :
    Spec.OneWordStored s (s.push v).advance (s.readReg Reg.rsp) v := by
  intro b
  rw [State.readMain_advance, State.readMain_push]

theorem State.othersSame_push (s : State) (v : Word) : Spec.OthersSame s (s.push v).advance [Reg.rsp] := by
  refine ⟨fun r hr => ?_, rfl, rfl, rfl⟩
  rw [State.readReg_advance, State.readReg_push, if_neg (mt List.mem_singleton.2 hr)]

theorem State.readReg_rsp_push (s : State) (v : Word) :
    (s.push v).advance.readReg Reg.rsp = s.readReg Reg.rsp - 1 := by
  rw [State.readReg_advance, State.readReg_push, if_pos rfl]

/-- The increment of a pop is seen in `rsp` unless the loaded word replaces it (D19). -/
theorem State.readReg_rsp_pop (s : State) {rd : Reg} (hrd : rd ≠ Reg.rsp) (v : Word) :
    (s.popped.finish rd v).readReg Reg.rsp = s.readReg Reg.rsp + 1 := by
  rw [State.readReg_finish, if_neg hrd.symm, State.readReg_popped, if_pos rfl]

theorem State.othersSame_pop (s : State) (rd : Reg) (v : Word) :
    Spec.OthersSame s (s.popped.finish rd v) [rd, Reg.rsp] := by
  refine ⟨fun r hr => ?_, rfl, rfl, rfl⟩
  obtain ⟨hrd, hrsp⟩ : r ≠ rd ∧ r ≠ Reg.rsp := by simpa using hr
  rw [State.readReg_finish, if_neg hrd, State.readReg_popped, if_neg hrsp]

/-! ## LOAD and STORE, main memory and external (R173 to R176) -/

theorem exec_load (rd rs : Reg) (s : State) :
    exec (.load rd rs) s = .next (s.finish rd (s.readMain (s.readReg rs))) := rfl

theorem exec_store (rd rs : Reg) (s : State) :
    exec (.store rd rs) s = .next (s.writeMain (s.readReg rd) (s.readReg rs)).advance := rfl

/-- The word written to the register is the answer that is recorded (R175). -/
theorem exec_loadx (rd rs : Reg) (s : State) :
    exec (.loadx rd rs) s =
      .next { Spec.wrote s rd (s.extValue (s.readReg rs)) with
                ext := s.ext ++ [.read (s.readReg rs) (s.extValue (s.readReg rs))] } := rfl

theorem exec_storex (rd rs : Reg) (s : State) :
    exec (.storex rd rs) s =
      .next { s with ext := s.ext ++ [.write (s.readReg rd) (s.readReg rs)], pc := s.pc + 1 } := rfl

theorem State.oneWordStored_writeMain (s : State) (a v : Word) :
    Spec.OneWordStored s (s.writeMain a v).advance a v := by
  intro b
  rw [State.readMain_advance, State.readMain_writeMain]

theorem State.othersSame_writeMain (s : State) (a v : Word) : Spec.OthersSame s (s.writeMain a v).advance [] :=
  ⟨fun r _ => s.readReg_writeMain r a v, rfl, rfl, rfl⟩

/-! ## The statements -/

/-- Settles O48: the word pushed is read before the push, so that `PUSH rsp` stores the old `rsp`. -/
theorem pushStoresThenDecrements : Obligations.PushStoresThenDecrements := by
  intro rs s
  refine ⟨encodeFields_eq_word .., rfl, _, exec_push rs s, ?_⟩
  exact ⟨s.oneWordStored_push _, s.readReg_rsp_push _, rfl, s.othersSame_push _⟩

/-- Settles O49: the load is the later of the two register writes, so that it decides `rd` also where `rd` is `rsp`. -/
theorem popIncrementsThenLoads : Obligations.PopIncrementsThenLoads := by
  intro rd s
  refine ⟨encodeFields_eq_word .., rfl, _, exec_pop rd s, ?_, fun hrd => s.readReg_rsp_pop hrd _, rfl, fun _ => rfl,
    s.othersSame_pop rd _⟩
  rw [State.readReg_finish_self, State.popWord_eq]

/-- Settles O50: incremented, `rsp` is again the address at which the push stored its word. -/
theorem popGivesBackPush : Obligations.PopGivesBackPush := by
  intro rs rd s t hpush
  obtain ⟨-, -, t', hpush', hstored, hlower, -, -⟩ := pushStoresThenDecrements rs s
  obtain rfl : t' = t := next_injective (hpush'.symm.trans hpush)
  obtain ⟨-, -, u, hpop, hword, hrsp, -⟩ := popIncrementsThenLoads rd t'
  have hback : t'.readReg Reg.rsp + 1 = s.readReg Reg.rsp := by rw [hlower, BitVec.sub_add_cancel]
  refine ⟨u, hpop, ?_, fun hrd => (hrsp hrd).trans hback⟩
  rw [hword, hback, hstored, if_pos rfl]

/-- Settles O53: the first register gives the address and the second the word, and a write to main memory changes no
register. -/
theorem storeWritesWord : Obligations.StoreWritesWord := by
  intro rd rs s
  refine ⟨encodeFields_eq_word .., rfl, _, exec_store rd rs s, ?_⟩
  exact ⟨s.oneWordStored_writeMain _ _, rfl, s.othersSame_writeMain _ _⟩

/-- Settles O14: the push of O48 with `rsp` = 0xFFFF, the value it has at reset. -/
theorem firstPushLandsAtTop : Obligations.FirstPushLandsAtTop := by
  have htop : State.reset.readReg Reg.rsp = 0xFFFF#16 := rfl
  refine ⟨htop, fun rs => ?_⟩
  obtain ⟨-, -, t, hpush, hstored, hlower, -⟩ := pushStoresThenDecrements rs State.reset
  rw [htop] at hstored hlower
  exact ⟨t, hpush, hstored, hlower⟩

/-- Settles O52: the address is read before `rd` is written, so that `LOAD rd, rd` is no case of its own. -/
theorem loadReadsWord : Obligations.LoadReadsWord := fun rd rs s =>
  ⟨encodeFields_eq_word .., rfl, (exec_load rd rs s).trans (s.next_finish_eq_wrote rd rfl)⟩

/-- Settles O55: the value is the environment's answer at the address, given the accesses made before. -/
theorem loadxTakesAnAnswer : Obligations.LoadxTakesAnAnswer := fun rd rs s =>
  ⟨encodeFields_eq_word .., rfl, s.extValue (s.readReg rs), exec_loadx rd rs s⟩

/-- Settles O56: the access is appended to the record, and only the record and `pc` change. -/
theorem storexPresentsValue : Obligations.StorexPresentsValue := fun rd rs s =>
  ⟨encodeFields_eq_word .., rfl, exec_storex rd rs s⟩

end Sys2Proof.Machine

/-! SUPPORT. Whole runs: what starts them (reset and the loaded image), what stops them (the reserved words), where they
stand still, and the clock cycles they take, by the fields of the fetched word. -/

namespace Sys2Proof

/-- A well-formed instruction is what its word decodes to. -/
theorem decode_of_encode_eq {i : Instr} {w : Word} (hwf : i.wellFormed = true) (hencode : encode i = w) :
    decode w = i :=
  hencode ▸ decode_encode hwf

/-! ## What a mask says of the fields of a word (R73) -/

theorem and_eq_iff_op {w : Word} (op : BitVec 4) :
    w &&& 0xF000#16 = encodeImm8 op 0 0 ↔ nibble w 12 = op.toFin :=
  ⟨fun h => (nibble_of_and 12 h rfl).trans (op_encodeImm8 op 0 0), and_of_op⟩

theorem and_eq_iff_op_ext {w : Word} (op ext : BitVec 4) :
    w &&& 0xF0F0#16 = encodeFields op 0 ext 0 ↔ nibble w 12 = op.toFin ∧ nibble w 4 = ext.toFin :=
  ⟨fun h => ⟨(nibble_of_and 12 h rfl).trans (op_encodeFields op 0 ext 0),
     (nibble_of_and 4 h rfl).trans (ext_encodeFields op 0 ext 0)⟩,
   fun ⟨hop, hext⟩ => and_of_op_ext hop hext⟩

/-! ## Reserved words (R67) -/

theorem isReservedOp1110_iff {w : Word} : isReservedOp1110 w = true ↔ nibble w 12 = 14 :=
  ⟨op_of_isReservedOp1110, isReservedOp1110_of_op⟩

theorem isReservedOp1111Ext111x_iff {w : Word} :
    isReservedOp1111Ext111x w = true ↔ nibble w 12 = 15 ∧ (nibble w 4 = 14 ∨ nibble w 4 = 15) := by
  refine ⟨op_ext_of_isReservedOp1111Ext111x, ?_⟩
  rintro ⟨hop, hext | hext⟩
  · exact isReservedOp1111Ext111x_of_op_ext (ext := 14#4) hop hext (.inl rfl)
  · exact isReservedOp1111Ext111x_of_op_ext (ext := 15#4) hop hext (.inr rfl)

/-- The row of a reserved term is its range, and a word lies in the row of what it decodes to. -/
theorem isReservedOp1110_of_decode {w iw : Word} (h : decode w = .reservedOp1110 iw) : isReservedOp1110 w = true := by
  have hrow := row_decode_holds w
  rwa [h] at hrow

theorem isReservedOp1111Ext111x_of_decode {w iw : Word} (h : decode w = .reservedOp1111Ext111x iw) :
    isReservedOp1111Ext111x w = true := by
  have hrow := row_decode_holds w
  rwa [h] at hrow

end Sys2Proof

namespace Sys2Proof.Machine

theorem reservedWord_iff {w : Word} :
    reservedWord w = true ↔ nibble w 12 = 14 ∨ nibble w 12 = 15 ∧ (nibble w 4 = 14 ∨ nibble w 4 = 15) := by
  rw [reservedWord, Bool.or_eq_true, isReservedOp1110_iff, isReservedOp1111Ext111x_iff]

/-! ## What stops a step (R206) -/

/-- Every instruction but the two reserved ones goes on, in every state (R200, R201). -/
theorem exec_goes_on_or_reserved (i : Instr) (s : State) :
    (∃ t, exec i s = .next t) ∨ ∃ iw, i = .reservedOp1110 iw ∨ i = .reservedOp1111Ext111x iw := by
  cases i
  case reservedOp1110 iw => exact .inr ⟨iw, .inl rfl⟩
  case reservedOp1111Ext111x iw => exact .inr ⟨iw, .inr rfl⟩
  all_goals exact .inl ⟨_, rfl⟩

theorem step_next_of_not_reservedWord {s : State} (h : reservedWord s.fetch = false) : ∃ t, step s = .next t := by
  obtain ⟨hop1110, hop1111⟩ := Bool.or_eq_false_iff.1 h
  obtain hnext | ⟨iw, hdecode | hdecode⟩ := exec_goes_on_or_reserved (decode s.fetch) s
  · exact hnext
  · exact absurd (isReservedOp1110_of_decode hdecode) (Bool.eq_false_iff.1 hop1110)
  · exact absurd (isReservedOp1111Ext111x_of_decode hdecode) (Bool.eq_false_iff.1 hop1111)

theorem step_fault_of_reservedWord {s : State} (h : reservedWord s.fetch = true) :
    step s = .fault (.illegalInstruction s.pc s.fetch) := by
  obtain hres | hres := Bool.or_eq_true_iff.1 h
  · exact step_eq_exec_of_decode (decode_of_isReservedOp1110 hres)
  · exact step_eq_exec_of_decode (decode_of_isReservedOp1111Ext111x hres)

/-! ## Runs of several steps -/

theorem runs_zero {s t : State} (h : Runs 0 s t) : s = t := next_injective h

/-- A run of `k + 1` steps is a step that goes on and a run of `k` steps. -/
theorem runs_succ {k : Nat} {s t : State} (h : Runs (k + 1) s t) : ∃ u, step s = .next u ∧ Runs k u t := by
  cases hstep : core.step s with
  | next u => exact ⟨u, hstep, by simpa only [Runs, Host.Core.run, hstep] using h⟩
  | fault | refused => simp only [Runs, Host.Core.run, hstep, reduceCtorEq] at h

/-! ## The time of a run (R229, D33) -/

theorem runCycles_one_of_next {s t : State} (h : step s = .next t) :
    runCycles 1 s = clockCycles (decode s.fetch) s.flags := by
  simp [runCycles_succ_of_next 0 h]

theorem runCycles_succ_of_stop {s : State} (h : ∀ t, step s ≠ .next t) (k : Nat) : runCycles (k + 1) s = none := by
  cases hstep : step s with
  | next t => exact absurd hstep (h t)
  | fault | refused => simp only [runCycles, hstep]

/-- The time is additive: the first step's count is taken off the front of both sides. -/
theorem runCycles_add {k : Nat} {s t : State} (h : Runs k s t) (m : Nat) :
    runCycles (k + m) s = (do return (← runCycles k s) + (← runCycles m t)) := by
  induction k generalizing s with
  | zero =>
    obtain rfl := runs_zero h
    simp
  | succ k ih =>
    obtain ⟨u, hstep, hrest⟩ := runs_succ h
    rw [Nat.add_right_comm, runCycles_succ_of_next _ hstep, runCycles_succ_of_next _ hstep, ih hrest]
    simp only [bind_assoc, pure_bind, Nat.add_assoc]

/-! ## The Clock Cycles column by the fields of a word (R228) -/

theorem columnCycles_eq_fields (w : Word) (fl : Flags) :
    Spec.columnCycles w fl =
      if nibble w 12 = 14 ∨ nibble w 12 = 15 ∧ (nibble w 4 = 14 ∨ nibble w 4 = 15) then none
      else if nibble w 12 = 15 ∧ nibble w 4 = 2 then some (jumpCycles (Cond.ofCode (nibble w 8)) fl)
      else if nibble w 12 = 12 then some (branchCycles (Cond.ofCode (nibble w 8)) fl)
      else if nibble w 12 = 15 ∧ nibble w 4 = 3 then some 5
      else if nibble w 12 = 15 ∧ nibble w 4 = 4 then some 6
      else if nibble w 12 = 13 ∨ nibble w 12 = 15 ∧ 8 ≤ nibble w 4 then some 4
      else some 3 := by
  have hjump : w &&& 0xF0F0#16 = 0xF020#16 ↔ nibble w 12 = 15 ∧ nibble w 4 = 2 := and_eq_iff_op_ext 15#4 2#4
  have hbranch : w &&& 0xF000#16 = 0xC000#16 ↔ nibble w 12 = 12 := and_eq_iff_op 12#4
  have hcall : w &&& 0xF0F0#16 = 0xF030#16 ↔ nibble w 12 = 15 ∧ nibble w 4 = 3 := and_eq_iff_op_ext 15#4 3#4
  have hret : w &&& 0xF0F0#16 = 0xF040#16 ↔ nibble w 12 = 15 ∧ nibble w 4 = 4 := and_eq_iff_op_ext 15#4 4#4
  have hcalld : w &&& 0xF000#16 = 0xD000#16 ↔ nibble w 12 = 13 := and_eq_iff_op 13#4
  have hones : w &&& 0xF000#16 = 0xF000#16 ↔ nibble w 12 = 15 := and_eq_iff_op 15#4
  simp only [Spec.columnCycles, reservedWord_iff, hjump, hbranch, hcall, hret, hcalld, hones, jumpCycles, branchCycles]

/-- In the group `op` = 0000 every instruction takes 3 cycles. -/
theorem clockCycles_decodeRegisterGroup (w : Word) (rd rs : Reg) (fl : Flags) :
    clockCycles (decodeRegisterGroup w rd rs) fl = some 3 := by
  fun_cases decodeRegisterGroup w rd rs <;> rfl

/-- In the group `op` = 1111 the count is decided by `ext`. -/
theorem clockCycles_decodeSpecialGroup {w : Word} (hop : nibble w 12 = 15) (fl : Flags) :
    clockCycles (decodeSpecialGroup w (nibble w 8) (nibble w 0)) fl = Spec.columnCycles w fl := by
  rw [columnCycles_eq_fields, hop]
  fun_cases decodeSpecialGroup w (nibble w 8) (nibble w 0)
  case case3 hext => -- J[condition]
    rw [clockCycles_jump, hext]
    rfl
  all_goals next hext => rw [hext]; rfl

/-- The model's table, by instruction, and the column, by the bits of the word, are one (R228). -/
theorem clockCycles_decode (w : Word) (fl : Flags) : clockCycles (decode w) fl = Spec.columnCycles w fl := by
  fun_cases decode w
  case case1 hop =>
    rw [clockCycles_decodeRegisterGroup, columnCycles_eq_fields, hop]
    rfl
  case case13 hop => -- B[condition]
    rw [clockCycles_branch, columnCycles_eq_fields, hop]
    rfl
  case case16 hop => exact clockCycles_decodeSpecialGroup hop fl
  all_goals next hop => rw [columnCycles_eq_fields, hop]; rfl

/-! ## Standing still (R225, D29) -/

/-- A taken branch with displacement -1 goes back to itself. -/
theorem exec_branch_minus_one {c : Cond} {s : State} (h : condHolds c s.flags = true) :
    exec (.branch c 0xFF) s = .next s := by
  have hback : 1 + sextImm8 0xFF = 0#16 := rfl
  have hself : s.pc + 1 + sextImm8 0xFF = s.pc := by rw [BitVec.add_assoc, hback, BitVec.add_zero]
  rw [exec_branch, s.branchIf_does, if_pos h, hself]

theorem State.fetch_of_ended {s : State} (h : s.ended = true) : s.fetch = endWord := beq_iff_eq.1 h

theorem decode_endWord : decode endWord = .branch .uc 0xFF := decode_encodeImm8_branch .uc 0xFF

/-! ## The statements -/

/-- Settles O60: the time of a run follows the recursion of `runCycles`, and the column is `clockCycles_decode`. -/
theorem cyclesAdd : Obligations.CyclesAdd :=
  ⟨runCycles_zero, fun _ _ => runCycles_one_of_next, fun _ m _ _ h => runCycles_add h m,
   fun k _ h => runCycles_succ_of_stop h k, clockCycles_decode⟩

/-- Settles O9: no instruction but the reserved ones stops, and exactly the reserved words decode to those. -/
theorem onlyReservedWordsStop : Obligations.OnlyReservedWordsStop := fun _ =>
  ⟨step_next_of_not_reservedWord, step_fault_of_reservedWord⟩

/-- Settles O59: both are a transfer that is always taken, to the address it stands at. -/
theorem endedRunsStandStill : Obligations.EndedRunsStandStill := by
  refine ⟨fun s hended => ?_, fun s rs hdecode hself => ?_⟩
  · have hdecode : decode s.fetch = .branch .uc 0xFF := by rw [State.fetch_of_ended hended, decode_endWord]
    exact (step_eq_exec_of_decode hdecode).trans (exec_branch_minus_one rfl)
  · have hjump : exec (.juc rs) s = .next { s with pc := s.readReg rs } := exec_jump_of_condHolds (c := .uc) rfl rs
    rw [step_eq_exec_of_decode hdecode, hjump, hself]

/-- Settles O57: the one word of NOP is that of `OR r0, r0`, which writes r0 with the value it holds. -/
theorem nopIsOrOfRegisterZero : Obligations.NopIsOrOfRegisterZero :=
  ⟨rfl, decode_of_encode_eq rfl rfl, fun s => ⟨rfl, rfl, s.next_finish_of_eq 0 BitVec.or_self⟩⟩

/-- Settles O12: the empty memory is canonical, and loading an image is a sequence of writes. -/
theorem resetAndLoadedMemoryCanonical : Obligations.ResetAndLoadedMemoryCanonical :=
  ⟨Memory.wf_nil, State.loadImage_wf Memory.wf_nil⟩

/-- Settles O5: each word is the encoding of its instruction, and the decoder reads every encoding back. -/
theorem writtenWordsDecode : Obligations.WrittenWordsDecode := by
  refine ⟨?_, ?_, ?_, ?_, ?_, ?_, ?_, ?_, ?_⟩
  all_goals exact decode_of_encode_eq rfl rfl

/-- Settles O13: loading an image leaves `pc` at its reset value, and there the first step fetches. -/
theorem resetFetchesAtZero : Obligations.ResetFetchesAtZero := by
  refine ⟨rfl, fun image => ?_⟩
  obtain ⟨-, hpc, -⟩ := State.reset.loadImage_frame 0 image
  rw [step, State.fetch_eq, hpc]
  rfl

end Sys2Proof.Machine
